-- ==== Sys2Proof/Word.lean ====
section
/-! DEFINITION. The value types of 00_scope.md R10, R13 and R15, and the one builder of register arrays. -/

namespace Sys2Proof

/-- A u8: a symbol code, a segment bitmask or one byte of a frame (00_scope.md R10, R13). -/
abbrev Byte := BitVec 8

/-- A u32: a command word, the result register or a time in ticks (00_scope.md R10, R13). -/
abbrev Word := BitVec 32

/-- A 24-bit frame; bit `p` drives output `p` (42_frame_packer.md R130). -/
abbrev Frame := BitVec 24

/-- A text: a finite sequence of bytes, byte 0 at the left (00_scope.md R15). -/
abbrev Text := List Byte

/-- The array whose element `k` is `f k`. -/
def tabulate {α : Type} (n : Nat) (f : Nat → α) : Vector α n :=
  ⟨⟨(List.range n).map f⟩, by simp⟩

end Sys2Proof
end

