-- ==== Sys2Proof/Syntax.lean ====
section
/-! DEFINITION. The nine commands (30_encoding.md R91 to R93), the names of the registers RD can read
(20_memory.md R72) and the causes of an illegal word (60_exceptions.md R301). -/

namespace Sys2Proof

/-- A command, one constructor per row of the opcode map (30_encoding.md R93). Operands are the unsigned
fields of the word as they stand (R92). -/
inductive Instr where
  /-- NOP, 48_host_commands.md R270. -/
  | nop
  /-- PASS, 47_control_loop.md R251. -/
  | pass
  /-- ENC: `b` is a symbol code, 41_encoder.md R114. -/
  | enc (b : Byte)
  /-- PACK: `d` is a digit index, `m` a segment bitmask, 42_frame_packer.md R136. -/
  | pack (d : BitVec 5) (m : Byte)
  /-- FLAGS: `c` is BASE_MODE, `e` is AUTO_EN, 48_host_commands.md R272. -/
  | flags (c e : BitVec 1)
  /-- TCLR, 48_host_commands.md R274. -/
  | tclr
  /-- TAPP: `b` is a byte of the text, 48_host_commands.md R276. -/
  | tapp (b : Byte)
  /-- TCOMMIT, 48_host_commands.md R278. -/
  | tcommit
  /-- RD: `b` is a register number, 48_host_commands.md R280. -/
  | rd (b : Byte)
  deriving DecidableEq, Repr

/-- A register or array element that RD can read: one name per row of the register map
(20_memory.md R72). -/
inductive Reg where
  | status | mode | flags | muxIdx | muxLast | frame | txCount | duty | regLast
  | phaseEnd | nextFlash | lastContent | lastGlitch | msgSel | stageLen
  | nEff | sEff | refreshQ | baseRefresh | glitchInDur | flashDur | glitchOutDur | glitchFrame
  | flashMin | flashMax | regPeriod | vTarget | vNum | vDen | dutyMin | dutyMax | dutyInit
  | msgCount | loneDot | disablePolicy
  | buf (k : Fin 16) | custom (k : Fin 16) | stage (k : Fin 16)
  | digitPin (k : Fin 16) | segPin (i : Fin 8)
  deriving DecidableEq, Repr

/-- Why a word is illegal (60_exceptions.md R301). -/
inductive IllegalCause where
  /-- RESERVED_OP: the opcode is 0x9 to 0xF. -/
  | reservedOp
  /-- RESERVED_BITS: a bit of the format's reserved field is 1. -/
  | reservedBits
  /-- BAD_REG: RD of an unassigned register number. -/
  | badReg
  deriving DecidableEq, Repr

/-- What a word decodes to: `decode(w) -> Command | Illegal(cause)` (30_encoding.md R94). -/
inductive Decoded where
  | command (i : Instr)
  | illegal (c : IllegalCause)
  deriving DecidableEq, Repr

end Sys2Proof
end

