-- ==== Sys2Proof/Machine/RegMap.lean ====
section
/-! DEFINITION. The RD register-number space (20_memory.md R72): which register a number names. -/

namespace Sys2Proof.Machine

/-- The register that number `b` names, none where the number is unassigned (20_memory.md R72). -/
def regOf (b : Byte) : Option Reg :=
  let n := b.toNat
  match n with
  | 0x00 => some .status
  | 0x01 => some .mode
  | 0x02 => some .flags
  | 0x03 => some .muxIdx
  | 0x04 => some .muxLast
  | 0x05 => some .frame
  | 0x06 => some .txCount
  | 0x07 => some .duty
  | 0x08 => some .regLast
  | 0x09 => some .phaseEnd
  | 0x0A => some .nextFlash
  | 0x0B => some .lastContent
  | 0x0C => some .lastGlitch
  | 0x0D => some .msgSel
  | 0x0E => some .stageLen
  | 0x10 => some .nEff
  | 0x11 => some .sEff
  | 0x12 => some .refreshQ
  | 0x13 => some .baseRefresh
  | 0x14 => some .glitchInDur
  | 0x15 => some .flashDur
  | 0x16 => some .glitchOutDur
  | 0x17 => some .glitchFrame
  | 0x18 => some .flashMin
  | 0x19 => some .flashMax
  | 0x1A => some .regPeriod
  | 0x1B => some .vTarget
  | 0x1C => some .vNum
  | 0x1D => some .vDen
  | 0x1E => some .dutyMin
  | 0x1F => some .dutyMax
  | 0x20 => some .dutyInit
  | 0x21 => some .msgCount
  | 0x22 => some .loneDot
  | 0x23 => some .disablePolicy
  | _ =>
    if 0x40 ≤ n ∧ n < 0x50 then some (.buf (Fin.ofNat 16 (n - 0x40)))
    else if 0x50 ≤ n ∧ n < 0x60 then some (.custom (Fin.ofNat 16 (n - 0x50)))
    else if 0x60 ≤ n ∧ n < 0x70 then some (.stage (Fin.ofNat 16 (n - 0x60)))
    else if 0x70 ≤ n ∧ n < 0x80 then some (.digitPin (Fin.ofNat 16 (n - 0x70)))
    else if 0x80 ≤ n ∧ n < 0x88 then some (.segPin (Fin.ofNat 8 (n - 0x80)))
    else none

/-- The number of a register: the first column of 20_memory.md R72. -/
def regNumber : Reg → Byte
  | .status => 0x00#8
  | .mode => 0x01#8
  | .flags => 0x02#8
  | .muxIdx => 0x03#8
  | .muxLast => 0x04#8
  | .frame => 0x05#8
  | .txCount => 0x06#8
  | .duty => 0x07#8
  | .regLast => 0x08#8
  | .phaseEnd => 0x09#8
  | .nextFlash => 0x0A#8
  | .lastContent => 0x0B#8
  | .lastGlitch => 0x0C#8
  | .msgSel => 0x0D#8
  | .stageLen => 0x0E#8
  | .nEff => 0x10#8
  | .sEff => 0x11#8
  | .refreshQ => 0x12#8
  | .baseRefresh => 0x13#8
  | .glitchInDur => 0x14#8
  | .flashDur => 0x15#8
  | .glitchOutDur => 0x16#8
  | .glitchFrame => 0x17#8
  | .flashMin => 0x18#8
  | .flashMax => 0x19#8
  | .regPeriod => 0x1A#8
  | .vTarget => 0x1B#8
  | .vNum => 0x1C#8
  | .vDen => 0x1D#8
  | .dutyMin => 0x1E#8
  | .dutyMax => 0x1F#8
  | .dutyInit => 0x20#8
  | .msgCount => 0x21#8
  | .loneDot => 0x22#8
  | .disablePolicy => 0x23#8
  | .buf k => BitVec.ofNat 8 (0x40 + k.val)
  | .custom k => BitVec.ofNat 8 (0x50 + k.val)
  | .stage k => BitVec.ofNat 8 (0x60 + k.val)
  | .digitPin k => BitVec.ofNat 8 (0x70 + k.val)
  | .segPin i => BitVec.ofNat 8 (0x80 + i.val)

/-- `assigned(b)`: the numbers listed in 20_memory.md R72 (30_encoding.md R94). -/
def assigned (b : Byte) : Bool := (regOf b).isSome

end Sys2Proof.Machine
end

