-- ==== Sys2Proof/WellFormed.lean ====
section
/-! DEFINITION. When a term of `Instr` is a command of the CORE. -/

namespace Sys2Proof

/-- Every operand value of a field is legal (30_encoding.md R92, R96), but for RD, whose number must be
assigned (R93). -/
def Instr.wf : Instr → Bool
  | .nop => true
  | .pass => true
  | .enc _ => true
  | .pack _ _ => true
  | .flags _ _ => true
  | .tclr => true
  | .tapp _ => true
  | .tcommit => true
  | .rd b => Machine.assigned b

end Sys2Proof
end

