-- ==== Sys2Proof/Decode.lean ====
section
/-! DEFINITION. The decoder of 30_encoding.md R94, total on 32-bit words, and the encoder of R91 to R93.
A command moves whole on the word-wide port, so no byte order enters (20_memory.md R73). -/

namespace Sys2Proof

/-- `OP = w[31:28]` (30_encoding.md R91). -/
def opField (w : Word) : BitVec 4 := w.extractLsb' 28 4

/-- `b = w[7:0]`, also PACK's `m` (30_encoding.md R92). -/
def byteField (w : Word) : Byte := w.extractLsb' 0 8

/-- `d = w[12:8]` (30_encoding.md R92). -/
def digitField (w : Word) : BitVec 5 := w.extractLsb' 8 5

/-- `c = w[0]` (30_encoding.md R92). -/
def baseField (w : Word) : BitVec 1 := w.extractLsb' 0 1

/-- `e = w[1]` (30_encoding.md R92). -/
def autoField (w : Word) : BitVec 1 := w.extractLsb' 1 1

/-- The reserved field of the opcode's format: `rsv_mask` of 30_encoding.md R94. A reserved opcode has
no format; its mask is never tested. -/
def reservedMask (op : BitVec 4) : Word :=
  match op.toNat with
  | 0x0 => 0x0FFFFFFF#32
  | 0x1 => 0x0FFFFFFF#32
  | 0x2 => 0x0FFFFF00#32
  | 0x3 => 0x0FFFE000#32
  | 0x4 => 0x0FFFFFFC#32
  | 0x5 => 0x0FFFFFFF#32
  | 0x6 => 0x0FFFFF00#32
  | 0x7 => 0x0FFFFFFF#32
  | 0x8 => 0x0FFFFF00#32
  | _ => 0#32

/-- The command a word with a defined opcode names: the last `case` of 30_encoding.md R94. -/
def commandOf (w : Word) : Option Instr :=
  match (opField w).toNat with
  | 0x0 => some .nop
  | 0x1 => some .pass
  | 0x2 => some (.enc (byteField w))
  | 0x3 => some (.pack (digitField w) (byteField w))
  | 0x4 => some (.flags (baseField w) (autoField w))
  | 0x5 => some .tclr
  | 0x6 => some (.tapp (byteField w))
  | 0x7 => some .tcommit
  | 0x8 => some (.rd (byteField w))
  | _ => none

/-- `decode(w)`, its checks in the order that fixes the one cause reported (30_encoding.md R94,
60_exceptions.md R303). -/
def decode (w : Word) : Decoded :=
  match commandOf w with
  | none => .illegal .reservedOp
  | some i =>
    if w &&& reservedMask (opField w) ≠ 0#32 then .illegal .reservedBits
    else if i.wf then .command i
    else .illegal .badReg

/-- The word of a command: opcode, zero reserved field, operands (30_encoding.md R91, R93). -/
def encode : Instr → Word
  | .nop => 0x0#4 ++ 0#28
  | .pass => 0x1#4 ++ 0#28
  | .enc b => 0x2#4 ++ (0#20 ++ b)
  | .pack d m => 0x3#4 ++ (0#15 ++ (d ++ m))
  | .flags c e => 0x4#4 ++ (0#26 ++ (e ++ c))
  | .tclr => 0x5#4 ++ 0#28
  | .tapp b => 0x6#4 ++ (0#20 ++ b)
  | .tcommit => 0x7#4 ++ 0#28
  | .rd b => 0x8#4 ++ (0#20 ++ b)

/-- The instruction the decoder reads from the low `nbits` bits of `w`, the bits above them 0; none where
the word is illegal. -/
def decodeTableWord (nbits w : Nat) : Option Instr :=
  match decode (BitVec.ofNat 32 (w % 2 ^ nbits)) with
  | .command i => some i
  | .illegal _ => none

end Sys2Proof
end

