-- ==== Sys2Proof/Machine/Flags.lean ====
section
/-! DEFINITION. The fields of STATUS (10_state.md R23) and FLAGS (R24), and the code of a cause
(60_exceptions.md R301). -/

namespace Sys2Proof.Machine

/-- The register `r` with bit `b` set to `v`, every other bit as it was. -/
def putBit {n : Nat} (r : BitVec n) (b : Nat) (v : Bool) : BitVec n :=
  if v then r ||| (1#n <<< b) else r &&& ~~~(1#n <<< b)

/-- `STATUS.ILL` (10_state.md R23). -/
def statusIll (st : Word) : Bool := st.getLsbD 0

/-- `STATUS.V_DISC` (10_state.md R23). -/
def statusVDisc (st : Word) : Bool := st.getLsbD 1

/-- `STATUS.TIME_ERR` (10_state.md R23). -/
def statusTimeErr (st : Word) : Bool := st.getLsbD 2

/-- `STATUS.CFG_CLAMP` (10_state.md R23). -/
def statusCfgClamp (st : Word) : Bool := st.getLsbD 3

/-- `STATUS.CFG_DUP` (10_state.md R23). -/
def statusCfgDup (st : Word) : Bool := st.getLsbD 4

/-- `STATUS.ILL_CAUSE`, bits 11:8 (10_state.md R23). -/
def statusIllCause (st : Word) : BitVec 4 := st.extractLsb' 8 4

/-- `STATUS.ILL <- v`. -/
def putIll (st : Word) (v : Bool) : Word := putBit st 0 v

/-- `STATUS.V_DISC <- v`. -/
def putVDisc (st : Word) (v : Bool) : Word := putBit st 1 v

/-- `STATUS.TIME_ERR <- v`. -/
def putTimeErr (st : Word) (v : Bool) : Word := putBit st 2 v

/-- `STATUS.CFG_CLAMP <- v`. -/
def putCfgClamp (st : Word) (v : Bool) : Word := putBit st 3 v

/-- `STATUS.CFG_DUP <- v`. -/
def putCfgDup (st : Word) (v : Bool) : Word := putBit st 4 v

/-- `STATUS.ILL_CAUSE <- c`. -/
def putIllCause (st : Word) (c : BitVec 4) : Word :=
  (st &&& ~~~0x00000F00#32) ||| (c.setWidth 32 <<< 8)

/-- The cause code (60_exceptions.md R301). -/
def causeCode : IllegalCause → BitVec 4
  | .reservedOp => 1#4
  | .reservedBits => 2#4
  | .badReg => 3#4

/-- The status word an illegal command leaves: `ILL` set, the first cause kept (60_exceptions.md R302). -/
def statusAfterIllegal (cause : IllegalCause) (st : Word) : Word :=
  let st := putIll st true
  if statusIllCause st = 0#4 then putIllCause st (causeCode cause) else st

/-- `FLAGS.BASE_MODE == CUSTOM` (10_state.md R24). -/
def baseIsCustom (fl : BitVec 2) : Bool := fl.getLsbD 0

/-- `FLAGS.AUTO_EN == 1` (10_state.md R24). -/
def autoEnabled (fl : BitVec 2) : Bool := fl.getLsbD 1

/-- FLAGS with `BASE_MODE = c` and `AUTO_EN = e` (10_state.md R24, 48_host_commands.md R272). -/
def flagsOf (c e : BitVec 1) : BitVec 2 := e ++ c

end Sys2Proof.Machine
end

