-- ==== Sys2Proof/Config.lean ====
section
/-! DEFINITION. What an implementation or the environment supplies: the configuration record (00_scope.md R9),
the PASS_IN record (R12), the reset record (70_reset_and_hazards.md R340), the effective configuration they
give (10_state.md R20, R40, R41), and the free values. -/

namespace Sys2Proof

/-- The treatment of a '.' with no preceding symbol (43_display_buffer.md R151): DROP is 0, CELL is 1. -/
inductive LoneDot where
  | drop
  | cell
  deriving DecidableEq, Repr, Inhabited

/-- The treatment of a cycle whose `flash_ok` becomes false (45_mode_machine.md R200): COMPLETE_CYCLE is 0,
END_AT_PHASE is 1. -/
inductive DisablePolicy where
  | completeCycle
  | endAtPhase
  deriving DecidableEq, Repr, Inhabited

/-- One argument of FMT_TIME with the text it gives. -/
structure FmtRow where
  hour : Byte
  min : Byte
  sec : Byte
  yday : BitVec 16
  text : Text
  deriving DecidableEq, Repr, Inhabited

/-- FMT_TIME as plain data (10_state.md R41). DESIGN CHOICE, log 2, safe: `table rows` gives the listed
texts and, on every other argument, the free value `Config.fmtTime`, so each total function on the finite
argument space is some table. -/
inductive TimeFormat where
  /-- The formatter of the configuration TC1 (95_test_vectors.md section 1): "12.34". -/
  | hhDotMm
  | table (rows : List FmtRow)
  deriving DecidableEq, Repr, Inhabited

/-- The configuration record `Cfg`, before clamping (00_scope.md R9). `charDef` is the set DEF that is part
of the parameter CHAR_ROM (41_encoder.md R112). -/
structure Cfg where
  n : Byte
  s : Byte
  digitPin : Vector Byte 16
  segPin : Vector Byte 8
  refreshQ : Word
  baseRefresh : Word
  glitchInDur : Word
  flashDur : Word
  glitchOutDur : Word
  glitchFrame : Word
  flashMin : Word
  flashMax : Word
  regPeriod : Word
  vTarget : BitVec 16
  vNum : BitVec 16
  vDen : BitVec 16
  dutyMin : BitVec 16
  dutyMax : BitVec 16
  dutyInit : BitVec 16
  charRom : Vector Byte 256
  charDef : List Byte
  msgTable : List Text
  glitchAlphabet : Text
  fmtTime : TimeFormat
  errText : Text
  loneDot : LoneDot
  disablePolicy : DisablePolicy
  autoEnReset : Bool
  deriving DecidableEq, Repr, Inhabited

/-- The record presented with RST (70_reset_and_hazards.md R340): the configuration, the tick `T0` and the
random word `R_RST`. -/
structure ResetRecord where
  cfg : Cfg
  t0 : Word
  rRst : Word
  deriving DecidableEq, Repr, Inhabited

/-- The PASS_IN record (00_scope.md R12). -/
structure PassIn where
  now : Word
  wcValid : Bool
  wcHour : Byte
  wcMin : Byte
  wcSec : Byte
  wcYday : BitVec 16
  vConn : Bool
  vRaw : BitVec 16
  rInt : Word
  rMsg : Word
  rGl : Vector Word 16
  deriving DecidableEq, Repr, Inhabited

/-- The effective configuration: the read-only registers loaded at reset (10_state.md R20). -/
structure EffCfg where
  nEff : Byte
  sEff : Byte
  digitPin : Vector (BitVec 5) 16
  segPin : Vector (BitVec 5) 8
  refreshQ : Word
  baseRefresh : Word
  glitchInDur : Word
  flashDur : Word
  glitchOutDur : Word
  glitchFrame : Word
  flashMin : Word
  flashMax : Word
  regPeriod : Word
  vTarget : BitVec 16
  vNum : BitVec 16
  vDen : BitVec 16
  dutyMin : BitVec 16
  dutyMax : BitVec 16
  dutyInit : BitVec 16
  msgCount : Byte
  loneDot : LoneDot
  disablePolicy : DisablePolicy
  deriving DecidableEq, Repr, Inhabited

/-- The read-only memories (10_state.md R40, R41), with the set DEF of CHAR_ROM (41_encoder.md R112). -/
structure Rom where
  charRom : Vector Byte 256
  charDef : List Byte
  msgTable : List Text
  glitchAlphabet : Text
  fmtTime : TimeFormat
  errText : Text
  deriving DecidableEq, Repr, Inhabited

namespace Config

/-- FREE VALUE (log 2, safe): the text FMT_TIME gives for arguments that no table lists. The spec gives no
formatter (91_not_in_source.md N6). -/
opaque fmtTime (hour min sec : Byte) (yday : BitVec 16) : Text

/-- FREE VALUE (log 5, safe): the PASS_IN record that the environment presents to a pass for which the
state lists none; the argument counts such passes. Every field is a free input (47_control_loop.md R255,
93_implementation_defined.md I6). -/
opaque freePassIn (k : Nat) : PassIn

end Config

end Sys2Proof
end

