-- ==== Sys2Proof/Machine/Time.lean ====
section
/-! DEFINITION. Time arithmetic (00_scope.md R16, 45_mode_machine.md R196) and the clock-mode formatter
(10_state.md R41). -/

namespace Sys2Proof.Machine

/-- `elapsed(now, t) = (now - t) mod 2^32` (00_scope.md R16). -/
def elapsed (now t : Word) : Word := now - t

/-- `reached(now, t)`: `s32((now - t) mod 2^32) >= 0` (00_scope.md R16). -/
def reached (now t : Word) : Bool := decide (0 ≤ (now - t).toInt)

/-- The flash interval `lo + (r mod (hi - lo + 1))`, on unbounded integers (45_mode_machine.md R196,
10_state.md R36). -/
def flashInterval (lo hi r : Word) : Nat :=
  lo.toNat + r.toNat % (hi.toNat - lo.toNat + 1)

/-- The next flash time `(t + interval) mod 2^32` (45_mode_machine.md R192, 10_state.md R36). -/
def flashTime (t lo hi r : Word) : Word :=
  t + BitVec.ofNat 32 (flashInterval lo hi r)

/-- The ASCII code of a decimal digit, '0'..'9' = 0x30..0x39 (00_scope.md R15). -/
def digitChar (n : Nat) : Byte := BitVec.ofNat 8 (0x30 + n % 10)

/-- Two decimal digits, '.', two decimal digits: FMT_TIME of the configuration TC1 (95_test_vectors.md
section 1). A value of 100 or more has no two-digit form: there the free value (log 2). -/
def formatHhDotMm (hour min sec : Byte) (yday : BitVec 16) : Text :=
  if hour.toNat < 100 ∧ min.toNat < 100 then
    [digitChar (hour.toNat / 10), digitChar hour.toNat, 0x2E#8,
      digitChar (min.toNat / 10), digitChar min.toNat]
  else Config.fmtTime hour min sec yday

/-- The text a formatter table gives: its first row for the argument, else the free value (log 2). -/
def formatByTable (hour min sec : Byte) (yday : BitVec 16) : List FmtRow → Text
  | [] => Config.fmtTime hour min sec yday
  | row :: rows =>
    if row.hour = hour ∧ row.min = min ∧ row.sec = sec ∧ row.yday = yday then row.text
    else formatByTable hour min sec yday rows

/-- `FMT_TIME(hour, min, sec, yday)` (10_state.md R41). -/
def formatTime (f : TimeFormat) (hour min sec : Byte) (yday : BitVec 16) : Text :=
  match f with
  | .hhDotMm => formatHhDotMm hour min sec yday
  | .table rows => formatByTable hour min sec yday rows

end Sys2Proof.Machine
end

