-- ==== Sys2Proof/Machine/ResetValues.lean ====
section
/-! DEFINITION. What reset computes from its record: the effective configuration (10_state.md R20), the two
configuration flags and the well-formedness of a record (70_reset_and_hazards.md R342), and the reset values
of the registers that depend on the record (R341). -/

namespace Sys2Proof.Machine

/-- The largest 32-bit time parameter, `2^31 - 1` (10_state.md R20). -/
def timeMax : Nat := 2 ^ 31 - 1

/-- A time parameter clamped to `2^31 - 1` (10_state.md R20). -/
def clampTime (t : Word) : Word := BitVec.ofNat 32 (min t.toNat timeMax)

/-- `N_eff = min(max(Cfg.N, 1), 16)` (10_state.md R20). -/
def effN (c : Cfg) : Nat := min (max c.n.toNat 1) 16

/-- `S_eff = min(Cfg.S, 8)` (10_state.md R20). -/
def effS (c : Cfg) : Nat := min c.s.toNat 8

/-- A pin index clamped to 23 (10_state.md R20). -/
def clampPin (p : Byte) : BitVec 5 := BitVec.ofNat 5 (min p.toNat 23)

/-- `DIGIT_PIN[k]`: clamped where live, 0 beyond `N_eff` (10_state.md R20). -/
def effDigitPin (c : Cfg) : Vector (BitVec 5) 16 :=
  tabulate 16 fun k => if k < effN c then clampPin (c.digitPin[k]?.getD 0#8) else 0#5

/-- `SEG_PIN[i]`: clamped where live, 0 beyond `S_eff` (10_state.md R20). -/
def effSegPin (c : Cfg) : Vector (BitVec 5) 8 :=
  tabulate 8 fun i => if i < effS c then clampPin (c.segPin[i]?.getD 0#8) else 0#5

/-- `FLASH_MAX_eff = max(FLASH_MIN_eff, min(Cfg.FLASH_MAX, 2^31 - 1))` (10_state.md R20). -/
def effFlashMax (c : Cfg) : Word :=
  BitVec.ofNat 32 (max (clampTime c.flashMin).toNat (clampTime c.flashMax).toNat)

/-- `V_DEN_eff = max(Cfg.V_DEN, 1)` (10_state.md R20). -/
def effVDen (c : Cfg) : BitVec 16 := BitVec.ofNat 16 (max c.vDen.toNat 1)

/-- `DUTY_MAX_eff = max(Cfg.DUTY_MIN, Cfg.DUTY_MAX)` (10_state.md R20). -/
def effDutyMax (c : Cfg) : BitVec 16 := BitVec.ofNat 16 (max c.dutyMin.toNat c.dutyMax.toNat)

/-- `DUTY_INIT_eff = min(max(Cfg.DUTY_INIT, DUTY_MIN), DUTY_MAX_eff)` (10_state.md R20). -/
def effDutyInit (c : Cfg) : BitVec 16 :=
  BitVec.ofNat 16 (min (max c.dutyInit.toNat c.dutyMin.toNat) (effDutyMax c).toNat)

/-- The effective configuration (10_state.md R20). -/
def effCfg (c : Cfg) : EffCfg where
  nEff := BitVec.ofNat 8 (effN c)
  sEff := BitVec.ofNat 8 (effS c)
  digitPin := effDigitPin c
  segPin := effSegPin c
  refreshQ := clampTime c.refreshQ
  baseRefresh := clampTime c.baseRefresh
  glitchInDur := clampTime c.glitchInDur
  flashDur := clampTime c.flashDur
  glitchOutDur := clampTime c.glitchOutDur
  glitchFrame := clampTime c.glitchFrame
  flashMin := clampTime c.flashMin
  flashMax := effFlashMax c
  regPeriod := clampTime c.regPeriod
  vTarget := c.vTarget
  vNum := c.vNum
  vDen := effVDen c
  dutyMin := c.dutyMin
  dutyMax := effDutyMax c
  dutyInit := effDutyInit c
  msgCount := BitVec.ofNat 8 c.msgTable.length
  loneDot := c.loneDot
  disablePolicy := c.disablePolicy

/-- The ROM parameters as loaded (70_reset_and_hazards.md R340). -/
def romOf (c : Cfg) : Rom where
  charRom := c.charRom
  charDef := c.charDef
  msgTable := c.msgTable
  glitchAlphabet := c.glitchAlphabet
  fmtTime := c.fmtTime
  errText := c.errText

/-- Some 32-bit time field is above `2^31 - 1` (70_reset_and_hazards.md R342). -/
def timeFieldClamped (c : Cfg) : Bool :=
  [c.refreshQ, c.baseRefresh, c.glitchInDur, c.flashDur, c.glitchOutDur, c.glitchFrame,
    c.flashMin, c.flashMax, c.regPeriod].any fun t => decide (timeMax < t.toNat)

/-- Some live pin index is above 23 (70_reset_and_hazards.md R342). -/
def pinClamped (c : Cfg) : Bool :=
  (c.digitPin.toList.take (effN c)).any (fun p => decide (23 < p.toNat)) ||
  (c.segPin.toList.take (effS c)).any (fun p => decide (23 < p.toNat))

/-- `STATUS.CFG_CLAMP`: one of the eight conditions of 70_reset_and_hazards.md R342 holds. -/
def cfgClamped (c : Cfg) : Bool :=
  decide (c.n.toNat = 0 ∨ 16 < c.n.toNat) ||
  decide (8 < c.s.toNat) ||
  pinClamped c ||
  timeFieldClamped c ||
  decide ((clampTime c.flashMax).toNat < (clampTime c.flashMin).toNat) ||
  decide (c.vDen.toNat = 0) ||
  decide (c.dutyMax.toNat < c.dutyMin.toNat) ||
  decide (c.dutyInit.toNat < c.dutyMin.toNat ∨ (effDutyMax c).toNat < c.dutyInit.toNat)

/-- The `N_eff + S_eff` live entries of the effective pin map (10_state.md R43). -/
def livePins (e : EffCfg) : List (BitVec 5) :=
  e.digitPin.toList.take e.nEff.toNat ++ e.segPin.toList.take e.sEff.toNat

/-- No entry of the list occurs twice. -/
def allDistinct : List (BitVec 5) → Bool
  | [] => true
  | p :: ps => !ps.contains p && allDistinct ps

/-- `STATUS.CFG_DUP`: the live pin indices are not pairwise distinct (70_reset_and_hazards.md R342). -/
def cfgDuplicate (e : EffCfg) : Bool := !allDistinct (livePins e)

/-- A code of '0'..'9' (00_scope.md R15). -/
def isDigitCode (c : Nat) : Bool := decide (0x30 ≤ c ∧ c ≤ 0x39)

/-- A code of 'A'..'Z' (00_scope.md R15). -/
def isUpperCode (c : Nat) : Bool := decide (0x41 ≤ c ∧ c ≤ 0x5A)

/-- A code of 'a'..'z' (00_scope.md R15). -/
def isLowerCode (c : Nat) : Bool := decide (0x61 ≤ c ∧ c ≤ 0x7A)

/-- A code of the printable ASCII punctuation (PRESUMED, log 9, safe: 0x21 to 0x7E less digits and letters). -/
def isPunctCode (c : Nat) : Bool :=
  decide (0x21 ≤ c ∧ c ≤ 0x7E) && !isDigitCode c && !isUpperCode c && !isLowerCode c

/-- The constraints on CHAR_ROM and its set DEF (41_encoder.md R112, items 1 to 4). The entries at
0x61-0x7A are never read and are left unconstrained (DEDUCED from item 4, log 8, safe). -/
def charRomWf (rom : Vector Byte 256) (codes : List Byte) : Bool :=
  codes.contains 0x20#8 &&
  (List.range 10).all (fun d => codes.contains (BitVec.ofNat 8 (0x30 + d))) &&
  codes.all (fun c => decide (c.toNat = 0x20) || isDigitCode c.toNat || isUpperCode c.toNat || isPunctCode c.toNat) &&
  decide (rom[0x20] = 0#8) &&
  (List.range 256).all (fun c =>
    codes.contains (BitVec.ofNat 8 c) || isLowerCode c || decide (rom[c]?.getD 0#8 = 0#8))

/-- A configuration the model gives a meaning: its ROM parameters keep their constraints: R112, texts of at
most 255 bytes, at most 255 messages (70_reset_and_hazards.md R342). -/
def cfgWf (c : Cfg) : Bool :=
  charRomWf c.charRom c.charDef &&
  decide (c.msgTable.length ≤ 255) &&
  c.msgTable.all (fun t => decide (t.length ≤ 255)) &&
  decide (c.glitchAlphabet.length ≤ 255) &&
  decide (c.errText.length ≤ 255)

/-- STATUS at reset: the two configuration flags, every other bit 0 (70_reset_and_hazards.md R341). -/
def resetStatus (c : Cfg) : Word :=
  putCfgDup (putCfgClamp 0#32 (cfgClamped c)) (cfgDuplicate (effCfg c))

/-- FLAGS at reset: CLOCK and `Cfg.AUTO_EN_RESET` (70_reset_and_hazards.md R341). -/
def resetFlags (c : Cfg) : BitVec 2 := flagsOf 0#1 (BitVec.ofBool c.autoEnReset)

/-- `MUX_LAST` at reset: `(T0 - REFRESH_Q) mod 2^32` (10_state.md R30). -/
def resetMuxLast (r : ResetRecord) : Word := r.t0 - (effCfg r.cfg).refreshQ

/-- `LAST_CONTENT` at reset: `(T0 - BASE_REFRESH) mod 2^32` (10_state.md R37). -/
def resetLastContent (r : ResetRecord) : Word := r.t0 - (effCfg r.cfg).baseRefresh

/-- `NEXT_FLASH` at reset (10_state.md R36). -/
def resetNextFlash (r : ResetRecord) : Word :=
  flashTime r.t0 (effCfg r.cfg).flashMin (effCfg r.cfg).flashMax r.rRst

end Sys2Proof.Machine
end

