-- ==== Sys2Proof/Machine/ExampleConfig.lean ====
section
/-! DEFINITION. The one reset record that `State.reset` names (DESIGN CHOICE, log 1, unsafe): the configuration
TC1 of 95_test_vectors.md section 1 with `T0 = 0` and `R_RST = 0`, from which every program of its section 4
starts. `State.resetWith` takes any other record. -/

namespace Sys2Proof.Machine

/-- The reference font, code and mask (41_encoder.md R115: not normative). -/
def referenceFont : List (Nat × Byte) :=
  [(0x20, 0x00#8), (0x2D, 0x40#8), (0x5F, 0x08#8),
   (0x30, 0x3F#8), (0x31, 0x06#8), (0x32, 0x5B#8), (0x33, 0x4F#8), (0x34, 0x66#8),
   (0x35, 0x6D#8), (0x36, 0x7D#8), (0x37, 0x07#8), (0x38, 0x7F#8), (0x39, 0x6F#8),
   (0x41, 0x77#8), (0x42, 0x7C#8), (0x43, 0x39#8), (0x44, 0x5E#8), (0x45, 0x79#8),
   (0x46, 0x71#8), (0x47, 0x3D#8), (0x48, 0x76#8), (0x49, 0x30#8), (0x4A, 0x1E#8),
   (0x4B, 0x75#8), (0x4C, 0x38#8), (0x4D, 0x37#8), (0x4E, 0x54#8), (0x4F, 0x3F#8),
   (0x50, 0x73#8), (0x51, 0x67#8), (0x52, 0x50#8), (0x53, 0x6D#8), (0x54, 0x78#8),
   (0x55, 0x3E#8), (0x56, 0x1C#8), (0x57, 0x2A#8), (0x58, 0x76#8), (0x59, 0x6E#8),
   (0x5A, 0x5B#8)]

/-- The mask a font gives a code, 0 for a code it does not list. -/
def fontMask (c : Nat) : List (Nat × Byte) → Byte
  | [] => 0#8
  | (k, m) :: rest => if k = c then m else fontMask c rest

/-- The configuration TC1 (95_test_vectors.md section 1). -/
def tc1 : Cfg where
  n := 4#8
  s := 8#8
  digitPin := #v[0, 1, 2, 3, 0, 0, 0, 0, 0, 0, 0, 0, 0, 0, 0, 0]
  segPin := #v[8, 9, 10, 11, 12, 13, 14, 15]
  refreshQ := 1#32
  baseRefresh := 100#32
  glitchInDur := 500#32
  flashDur := 3000#32
  glitchOutDur := 500#32
  glitchFrame := 50#32
  flashMin := 10000#32
  flashMax := 20000#32
  regPeriod := 100#32
  vTarget := 50#16
  vNum := 1#16
  vDen := 10#16
  dutyMin := 10#16
  dutyMax := 200#16
  dutyInit := 100#16
  charRom := tabulate 256 fun c => fontMask c referenceFont
  charDef := referenceFont.map fun row => BitVec.ofNat 8 row.1
  msgTable := [[0x48#8, 0x49#8], [0x56#8, 0x46#8, 0x44#8]]
  glitchAlphabet := [0x30#8, 0x31#8, 0x32#8, 0x33#8, 0x34#8, 0x35#8, 0x36#8, 0x37#8, 0x38#8, 0x39#8]
  fmtTime := .hhDotMm
  errText := [0x45#8, 0x52#8, 0x52#8]
  loneDot := .drop
  disablePolicy := .completeCycle
  autoEnReset := false

/-- The record of `State.reset` (log 1). -/
def resetRecord : ResetRecord := { cfg := tc1, t0 := 0#32, rRst := 0#32 }

end Sys2Proof.Machine
end

