-- ==== Sys2Proof/Machine/State.lean ====
section
/-! DEFINITION. The state of the CORE (10_state.md), the ports it is driven through (00_scope.md R11), the
reasons a step can stop, and reset (70_reset_and_hazards.md R340, R341). -/

namespace Sys2Proof.Machine

/-- The display mode (10_state.md R25). -/
inductive Mode where
  | base
  | glitchIn
  | flash
  | glitchOut
  deriving DecidableEq, Repr, Inhabited

/-- A display cell: symbol and decimal point (10_state.md R28). -/
structure Cell where
  sym : Byte
  dot : Bool
  deriving DecidableEq, Repr, Inhabited

/-- The blank cell `(0x20, 0)` (10_state.md R28). -/
def blankCell : Cell := { sym := 0x20#8, dot := false }

/-- One TX event: the frame and its three bytes, `fb0` first on the port (42_frame_packer.md R134). -/
structure TxEvent where
  frame : Frame
  fb0 : Byte
  fb1 : Byte
  fb2 : Byte
  deriving DecidableEq, Repr, Inhabited

/-- Who issues a command (00_scope.md R19). PASS belongs to the loop agent alone
(93_implementation_defined.md I19, 60_exceptions.md R307). -/
inductive Agent where
  | loop
  | host
  deriving DecidableEq, Repr, Inhabited

/-- What arrives at the CORE, one at a time: a word on CMD, or RST with its record (00_scope.md R11). -/
inductive PortEvent where
  | command (agent : Agent) (w : Word)
  | reset (r : ResetRecord)
  deriving DecidableEq, Repr

/-- The state of the CORE. The last four fields are the model's own: what the environment has ready at the
ports and what it has seen on TX (logs 3, 5 and 6). -/
structure State where
  /-- The effective configuration registers (10_state.md R20). -/
  cfg : EffCfg
  /-- The read-only memories (10_state.md R40, R41). -/
  rom : Rom
  /-- `RES` (10_state.md R22). -/
  res : Word
  /-- `STATUS` (10_state.md R23). -/
  status : Word
  /-- `FLAGS` (10_state.md R24). -/
  flags : BitVec 2
  /-- `MODE` (10_state.md R25). -/
  mode : Mode
  /-- `STAGE[0..15]` (10_state.md R26). -/
  stage : Vector Byte 16
  /-- `STAGE_LEN` (10_state.md R26). -/
  stageLen : BitVec 5
  /-- `CUSTOM[0..15]` (10_state.md R27). -/
  custom : Vector Byte 16
  /-- `BUF[0..15]` (10_state.md R28). -/
  buf : Vector Cell 16
  /-- `MUX_IDX` (10_state.md R29). -/
  muxIdx : BitVec 4
  /-- `MUX_LAST` (10_state.md R30). -/
  muxLast : Word
  /-- `FRAME` (10_state.md R31). -/
  frame : Frame
  /-- `TX_COUNT` (10_state.md R32). -/
  txCount : Word
  /-- `DUTY` (10_state.md R33). -/
  duty : BitVec 16
  /-- `REG_LAST` (10_state.md R34). -/
  regLast : Word
  /-- `PHASE_END` (10_state.md R35). -/
  phaseEnd : Word
  /-- `NEXT_FLASH` (10_state.md R36). -/
  nextFlash : Word
  /-- `LAST_CONTENT` (10_state.md R37). -/
  lastContent : Word
  /-- `LAST_GLITCH` (10_state.md R38). -/
  lastGlitch : Word
  /-- `MSG_SEL` (10_state.md R39). -/
  msgSel : Byte
  /-- CMD and RST: what is still to arrive, in arrival order (20_memory.md R77; DESIGN CHOICE, log 3, safe). -/
  port : List PortEvent
  /-- PASS_IN: the records the next passes will sample (47_control_loop.md R255; DESIGN CHOICE, log 5, safe). -/
  passIn : List PassIn
  /-- How many passes have sampled a free PASS_IN record (DESIGN CHOICE, log 5, safe). -/
  freeSamples : Nat
  /-- TX: the events since the last reset, oldest first (DESIGN CHOICE, log 6, safe). -/
  tx : List TxEvent
  deriving DecidableEq, Repr

/-- The reasons the machine stops with a fault: none, for no condition stops the CORE (60_exceptions.md R300). -/
inductive Fault where
  deriving DecidableEq, Repr

/-- The reasons a step has no meaning. -/
inductive Refusal where
  /-- Raised by an arm of `exec` whose instruction has no meaning yet; safe. No arm of this model raises it. -/
  | notModelled (mnemonic : String)
  /-- Raised by the step that takes RST with a record whose ROM parameters break their constraints: "A model
  refuses it rather than giving it a meaning" (70_reset_and_hazards.md R342); safe. -/
  | illFormedConfig
  /-- Raised by the step that takes a PASS sent by the host, a case a model refuses
  (93_implementation_defined.md I19, 70_reset_and_hazards.md R360); safe. -/
  | hostPass
  deriving DecidableEq, Repr

/-- The machine right after RST with the record `r` (70_reset_and_hazards.md R340, R341). -/
def State.resetWith (r : ResetRecord) : State where
  cfg := effCfg r.cfg
  rom := romOf r.cfg
  res := 0#32
  status := resetStatus r.cfg
  flags := resetFlags r.cfg
  mode := .base
  stage := tabulate 16 fun _ => 0x20#8
  stageLen := 0#5
  custom := tabulate 16 fun _ => 0x20#8
  buf := tabulate 16 fun _ => blankCell
  muxIdx := 0#4
  muxLast := resetMuxLast r
  frame := 0#24
  txCount := 0#32
  duty := effDutyInit r.cfg
  regLast := r.t0
  phaseEnd := r.t0
  nextFlash := resetNextFlash r
  lastContent := resetLastContent r
  lastGlitch := r.t0
  msgSel := 0#8
  port := []
  passIn := []
  freeSamples := 0
  tx := []

/-- The machine right after reset with the record of log 1 (DESIGN CHOICE, unsafe). -/
def State.reset : State := State.resetWith resetRecord

end Sys2Proof.Machine
end

