-- ==== Sys2Proof/Machine/Ops.lean ====
section
/-! DEFINITION. The named operations over the registers and the ports, and taking an illegal command, the one
exception-like event of the CORE (60_exceptions.md R300 to R303, R306: nothing is saved, no mode changes,
there is no handler and no return). -/

namespace Sys2Proof.Machine

/-- `N_eff` as a number of cells. -/
def State.nEff (s : State) : Nat := s.cfg.nEff.toNat

/-- `RES <- v` (10_state.md R22). -/
def State.setRes (s : State) (v : Word) : State := { s with res := v }

/-- `FLAGS.BASE_MODE <- c`, `FLAGS.AUTO_EN <- e` (48_host_commands.md R272). -/
def State.setFlags (s : State) (c e : BitVec 1) : State := { s with flags := flagsOf c e }

/-- `STATUS.TIME_ERR <- v` (45_mode_machine.md R194). -/
def State.setTimeErr (s : State) (v : Bool) : State := { s with status := putTimeErr s.status v }

/-- `STATUS.V_DISC <- v` (46_regulator.md R232). -/
def State.setVDisc (s : State) (v : Bool) : State := { s with status := putVDisc s.status v }

/-- `raise IllegalCommand(cause)`: `ILL` is set and the first cause kept; no other register, port or event
changes (60_exceptions.md R302). -/
def raiseIllegal (cause : IllegalCause) (s : State) : State :=
  { s with status := statusAfterIllegal cause s.status }

/-- The PASS_IN record a pass samples: the next one the environment has ready, else a free one
(47_control_loop.md R251, R255; log 5). -/
def State.sample (s : State) : PassIn :=
  match s.passIn with
  | [] => Config.freePassIn s.freeSamples
  | p :: _ => p

/-- The ports after a pass has sampled PASS_IN (log 5). -/
def State.dropSample (s : State) : State :=
  match s.passIn with
  | [] => { s with freeSamples := s.freeSamples + 1 }
  | _ :: rest => { s with passIn := rest }

/-- The ports after the first arrival has been taken. -/
def State.dropEvent (s : State) : State := { s with port := s.port.tail }

/-- The byte `FB[k]`: `FB[k][j] = f[16 - 8k + j]` (42_frame_packer.md R134). -/
def frameByte (f : Frame) (k : Nat) : Byte := f.extractLsb' (16 - 8 * k) 8

/-- The TX event that presents the frame `f` (42_frame_packer.md R134). -/
def txEvent (f : Frame) : TxEvent :=
  { frame := f, fb0 := frameByte f 0, fb1 := frameByte f 1, fb2 := frameByte f 2 }

/-- `FRAME <- f`, `Emit TX(f)`, `TX_COUNT <- (TX_COUNT + 1) mod 2^32` (44_multiplexer.md R172). -/
def State.emitTx (s : State) (f : Frame) : State :=
  { s with frame := f, tx := s.tx ++ [txEvent f], txCount := s.txCount + 1#32 }

/-- The machine after RST with the record `r`: every register at its reset value, what is still to arrive at
the input ports untouched (70_reset_and_hazards.md R340; log 12). -/
def State.takeReset (s : State) (r : ResetRecord) : State :=
  { State.resetWith r with port := s.port, passIn := s.passIn, freeSamples := s.freeSamples }

end Sys2Proof.Machine
end

