-- ==== Sys2Proof/Machine/Encoder.lean ====
section
/-! DEFINITION. The character encoder ROM and the command ENC (41_encoder.md). -/

namespace Sys2Proof.Machine

/-- `fold(c)`: lowercase ASCII letters to uppercase, every other byte unchanged (41_encoder.md R111). -/
def fold (c : Byte) : Byte :=
  if 0x61 ≤ c.toNat ∧ c.toNat ≤ 0x7A then c - 0x20#8 else c

/-- `RomRead(c)`: `CHAR_ROM[c]` (00_scope.md R14). -/
def romRead (r : Rom) (c : Byte) : Byte := r.charRom[c.toNat]'c.isLt

/-- `encode(c) = CHAR_ROM[fold(c)]` (41_encoder.md R113). -/
def encodeSymbol (r : Rom) (c : Byte) : Byte := romRead r (fold c)

/-- ENC: `RES <- zext_32(encode(b))` (41_encoder.md R114). -/
def execEnc (b : Byte) (s : State) : Host.Outcome State Fault Refusal :=
  .next (s.setRes ((encodeSymbol s.rom b).setWidth 32))

end Sys2Proof.Machine
end

