-- ==== Sys2Proof/Machine/DisplayBuffer.lean ====
section
/-! DEFINITION. The display buffer manager: `set_content` (43_display_buffer.md R150 to R155). -/

namespace Sys2Proof.Machine

/-- The code of '.' (00_scope.md R15). -/
def dotCode : Byte := 0x2E#8

/-- The scan of 43_display_buffer.md R152: the cells of a text in reading order, at most `room` of them. A '.'
right after a taken symbol folds into its cell; a lone '.' follows `LONE_DOT` (R151). -/
def scanCells (lone : LoneDot) : Nat → Text → List Cell
  | 0, _ => []
  | _ + 1, [] => []
  | room + 1, [c] =>
    if fold c = dotCode ∧ lone = .drop then [] else { sym := fold c, dot := false } :: scanCells lone room []
  | room + 1, c :: d :: rest =>
    if fold c = dotCode ∧ lone = .drop then scanCells lone (room + 1) (d :: rest)
    else if d = dotCode then { sym := fold c, dot := true } :: scanCells lone room rest
    else { sym := fold c, dot := false } :: scanCells lone room (d :: rest)

/-- The buffer after `set_content(t)`: live cell `k` is cell `N_eff - 1 - k` of the scan padded with blanks,
the others are untouched (43_display_buffer.md R150, R152, R154). -/
def contentCells (lone : LoneDot) (n : Nat) (t : Text) (old : Vector Cell 16) : Vector Cell 16 :=
  let cells := scanCells lone n t
  tabulate 16 fun k =>
    if k < n then cells.getD (n - 1 - k) blankCell else old[k]?.getD blankCell

/-- `set_content(t)` (43_display_buffer.md R152). -/
def setContent (t : Text) (s : State) : State :=
  { s with buf := contentCells s.cfg.loneDot s.nEff t s.buf }

end Sys2Proof.Machine
end

