-- ==== Sys2Proof/Machine/ModeMachine.lean ====
section
/-! DEFINITION. The mode stage of a pass (45_mode_machine.md R190 to R204). -/

namespace Sys2Proof.Machine

/-- `flash_ok`: the feature is enabled and the base mode is CLOCK (45_mode_machine.md R190). -/
def flashOk (s : State) : Bool := autoEnabled s.flags && !baseIsCustom s.flags

/-- `base_text(in)` (45_mode_machine.md R191). -/
def baseText (p : PassIn) (s : State) : Text :=
  if baseIsCustom s.flags then s.custom.toList.take s.nEff
  else if p.wcValid then formatTime s.rom.fmtTime p.wcHour p.wcMin p.wcSec p.wcYday
  else s.rom.errText

/-- Byte `j` of `glitch_text(in)` (45_mode_machine.md R195). -/
def glitchByte (alphabet : Text) (p : PassIn) (j : Nat) : Byte :=
  if alphabet.length = 0 then 0x20#8
  else alphabet.getD ((p.rGl[j]?.getD 0#32).toNat % alphabet.length) 0x20#8

/-- `glitch_text(in)`: exactly `N_eff` bytes (45_mode_machine.md R195). -/
def glitchText (p : PassIn) (s : State) : Text :=
  (List.range s.nEff).map (glitchByte s.rom.glitchAlphabet p)

/-- `write_base(now, in)` (45_mode_machine.md R192, R194). -/
def writeBase (p : PassIn) (s : State) : State :=
  let t := baseText p s
  let s := if baseIsCustom s.flags then s else s.setTimeErr (!p.wcValid)
  { setContent t s with lastContent := p.now }

/-- `write_glitch(now, in)` (45_mode_machine.md R192). -/
def writeGlitch (p : PassIn) (s : State) : State :=
  { setContent (glitchText p s) s with lastGlitch := p.now }

/-- `enter_flash(in)` (45_mode_machine.md R192, R197). -/
def enterFlash (p : PassIn) (s : State) : State :=
  if s.cfg.msgCount.toNat = 0 then setContent [] { s with msgSel := 0#8 }
  else
    let sel := p.rMsg.toNat % s.cfg.msgCount.toNat
    setContent (s.rom.msgTable.getD sel []) { s with msgSel := BitVec.ofNat 8 sel }

/-- `return_to_base(now, in)` (45_mode_machine.md R192, R196). -/
def returnToBase (p : PassIn) (s : State) : State :=
  writeBase p
    { s with mode := .base, nextFlash := flashTime p.now s.cfg.flashMin s.cfg.flashMax p.rInt }

/-- The end of the current phase cuts the cycle short: `DISABLE_POLICY == END_AT_PHASE and not flash_ok`
(45_mode_machine.md R198, R200). -/
def endsAtPhase (s : State) : Bool := decide (s.cfg.disablePolicy = .endAtPhase) && !flashOk s

/-- The BASE arm of `mode_stage` (45_mode_machine.md R198). -/
def stageBase (p : PassIn) (s : State) : State :=
  if flashOk s && reached p.now s.nextFlash then
    writeGlitch p { s with mode := .glitchIn, phaseEnd := p.now + s.cfg.glitchInDur }
  else if s.cfg.baseRefresh ≤ elapsed p.now s.lastContent then writeBase p s
  else s

/-- The GLITCH_IN arm of `mode_stage` (45_mode_machine.md R198). -/
def stageGlitchIn (p : PassIn) (s : State) : State :=
  if reached p.now s.phaseEnd then
    if endsAtPhase s then returnToBase p s
    else enterFlash p { s with mode := .flash, phaseEnd := p.now + s.cfg.flashDur }
  else if s.cfg.glitchFrame ≤ elapsed p.now s.lastGlitch then writeGlitch p s
  else s

/-- The FLASH arm of `mode_stage` (45_mode_machine.md R198). -/
def stageFlash (p : PassIn) (s : State) : State :=
  if reached p.now s.phaseEnd then
    if endsAtPhase s then returnToBase p s
    else writeGlitch p { s with mode := .glitchOut, phaseEnd := p.now + s.cfg.glitchOutDur }
  else s

/-- The GLITCH_OUT arm of `mode_stage` (45_mode_machine.md R198). -/
def stageGlitchOut (p : PassIn) (s : State) : State :=
  if reached p.now s.phaseEnd then returnToBase p s
  else if s.cfg.glitchFrame ≤ elapsed p.now s.lastGlitch then writeGlitch p s
  else s

/-- `mode_stage(in)` (45_mode_machine.md R198). -/
def modeStage (p : PassIn) (s : State) : State :=
  match s.mode with
  | .base => stageBase p s
  | .glitchIn => stageGlitchIn p s
  | .flash => stageFlash p s
  | .glitchOut => stageGlitchOut p s

end Sys2Proof.Machine
end

