-- ==== Sys2Proof/Machine/FramePacker.lean ====
section
/-! DEFINITION. The frame packer and the command PACK (42_frame_packer.md). -/

namespace Sys2Proof.Machine

/-- The one-bit frame `1 << pin` (42_frame_packer.md R131). -/
def pinBit (pin : BitVec 5) : Frame := 1#24 <<< pin.toNat

/-- The digit-select field: one bit where `d < N_eff`, none elsewhere (42_frame_packer.md R131, R132). -/
def digitBits (e : EffCfg) (d : BitVec 5) : Frame :=
  if d.toNat < e.nEff.toNat then pinBit (e.digitPin[d.toNat]?.getD 0#5) else 0#24

/-- The frame `f` with the line of segment `i` added where `m[i]` is set and `i < S_eff`
(42_frame_packer.md R131, R133). -/
def addSegment (e : EffCfg) (m : Byte) (f : Frame) (i : Fin 8) : Frame :=
  if i.val < e.sEff.toNat ∧ m.getLsbD i.val = true then f ||| pinBit e.segPin[i] else f

/-- `pack(d, m)`: the OR of the digit-select bit and the segment bits (42_frame_packer.md R131). -/
def pack (e : EffCfg) (d : BitVec 5) (m : Byte) : Frame :=
  (List.finRange 8).foldl (addSegment e m) (digitBits e d)

/-- PACK: `RES <- zext_32(pack(d, m))` (42_frame_packer.md R136). -/
def execPack (d : BitVec 5) (m : Byte) (s : State) : Host.Outcome State Fault Refusal :=
  .next (s.setRes ((pack s.cfg d m).setWidth 32))

end Sys2Proof.Machine
end

