-- ==== Sys2Proof/Machine/Multiplexer.lean ====
section
/-! DEFINITION. The multiplexer stage of a pass (44_multiplexer.md R170, R172). -/

namespace Sys2Proof.Machine

/-- `DP_BIT` (41_encoder.md R110). -/
def dpBit : Byte := 0x80#8

/-- The segment mask of a cell: its symbol encoded, the decimal point added (44_multiplexer.md R172). -/
def cellMask (r : Rom) (c : Cell) : Byte :=
  if c.dot then encodeSymbol r c.sym ||| dpBit else encodeSymbol r c.sym

/-- The frame the next advance sends: the cell at `MUX_IDX` on digit `MUX_IDX` (44_multiplexer.md R172). -/
def muxFrame (s : State) : Frame :=
  pack s.cfg (s.muxIdx.setWidth 5) (cellMask s.rom (s.buf[s.muxIdx.toNat]'s.muxIdx.isLt))

/-- The stage is due: `elapsed(now, MUX_LAST) >= REFRESH_Q` (44_multiplexer.md R170). -/
def muxDue (now : Word) (s : State) : Bool := decide (s.cfg.refreshQ ≤ elapsed now s.muxLast)

/-- `(MUX_IDX + 1) mod N_eff` (44_multiplexer.md R172). -/
def nextMuxIdx (s : State) : BitVec 4 := BitVec.ofNat 4 ((s.muxIdx.toNat + 1) % s.nEff)

/-- `mux_stage(now)` (44_multiplexer.md R172). -/
def muxStage (now : Word) (s : State) : State :=
  if muxDue now s then
    { s.emitTx (muxFrame s) with muxIdx := nextMuxIdx s, muxLast := now }
  else s

end Sys2Proof.Machine
end

