-- ==== Sys2Proof/Machine/Regulator.lean ====
section
/-! DEFINITION. The regulator stage of a pass (46_regulator.md R231 to R234). -/

namespace Sys2Proof.Machine

/-- The stage is due: `elapsed(now, REG_LAST) >= REG_PERIOD` (46_regulator.md R231). -/
def regDue (now : Word) (s : State) : Bool := decide (s.cfg.regPeriod ≤ elapsed now s.regLast)

/-- The control law on a connected sample, on unbounded integers (46_regulator.md R232, R233). -/
def nextDuty (e : EffCfg) (vRaw duty : BitVec 16) : BitVec 16 :=
  let lhs := vRaw.toNat * e.vNum.toNat
  let rhs := e.vTarget.toNat * e.vDen.toNat
  if lhs < rhs then BitVec.ofInt 16 (min (duty.toNat + 1 : Int) e.dutyMax.toNat)
  else if lhs > rhs then BitVec.ofInt 16 (max (duty.toNat - 1 : Int) e.dutyMin.toNat)
  else duty

/-- `reg_stage(in)` (46_regulator.md R232). -/
def regStage (p : PassIn) (s : State) : State :=
  if regDue p.now s then
    let s := { s with regLast := p.now }
    if p.vConn then
      let s := s.setVDisc false
      { s with duty := nextDuty s.cfg p.vRaw s.duty }
    else s.setVDisc true
  else s

end Sys2Proof.Machine
end

