-- ==== Sys2Proof/Machine/ControlLoop.lean ====
section
/-! DEFINITION. The control-loop pass and the command PASS (47_control_loop.md). -/

namespace Sys2Proof.Machine

/-- One pass on one input record: mode stage, regulator stage, multiplexer stage (47_control_loop.md R250, R251). -/
def runPass (p : PassIn) (s : State) : State :=
  muxStage p.now (regStage p (modeStage p s))

/-- PASS: sample PASS_IN, then run the three stages (47_control_loop.md R251). -/
def execPass (s : State) : Host.Outcome State Fault Refusal :=
  .next (runPass s.sample s.dropSample)

end Sys2Proof.Machine
end

