-- ==== Sys2Proof/Machine/Operands.lean ====
section
/-! DEFINITION. The operand form of RD: a register number names one whole register or one whole array element,
returned zero-extended to 32 bits (20_memory.md R72, R75). The other operands are plain fields of the word
(30_encoding.md R92). -/

namespace Sys2Proof.Machine

/-- `MODE` as its 2-bit code (10_state.md R25). -/
def modeCode : Mode → BitVec 2
  | .base => 0#2
  | .glitchIn => 1#2
  | .flash => 2#2
  | .glitchOut => 3#2

/-- `LONE_DOT` as its bit (43_display_buffer.md R151). -/
def loneDotCode : LoneDot → BitVec 1
  | .drop => 0#1
  | .cell => 1#1

/-- `DISABLE_POLICY` as its bit (45_mode_machine.md R200). -/
def disablePolicyCode : DisablePolicy → BitVec 1
  | .completeCycle => 0#1
  | .endAtPhase => 1#1

/-- A cell as `{dot, sym}`: `sym` in bits 7:0, `dot` in bit 8 (10_state.md R28). -/
def cellCode (c : Cell) : BitVec 9 := BitVec.ofBool c.dot ++ c.sym

/-- The value of a register, zero-extended to 32 bits (20_memory.md R72). -/
def readReg (s : State) : Reg → Word
  | .status => s.status
  | .mode => (modeCode s.mode).setWidth 32
  | .flags => s.flags.setWidth 32
  | .muxIdx => s.muxIdx.setWidth 32
  | .muxLast => s.muxLast
  | .frame => s.frame.setWidth 32
  | .txCount => s.txCount
  | .duty => s.duty.setWidth 32
  | .regLast => s.regLast
  | .phaseEnd => s.phaseEnd
  | .nextFlash => s.nextFlash
  | .lastContent => s.lastContent
  | .lastGlitch => s.lastGlitch
  | .msgSel => s.msgSel.setWidth 32
  | .stageLen => s.stageLen.setWidth 32
  | .nEff => s.cfg.nEff.setWidth 32
  | .sEff => s.cfg.sEff.setWidth 32
  | .refreshQ => s.cfg.refreshQ
  | .baseRefresh => s.cfg.baseRefresh
  | .glitchInDur => s.cfg.glitchInDur
  | .flashDur => s.cfg.flashDur
  | .glitchOutDur => s.cfg.glitchOutDur
  | .glitchFrame => s.cfg.glitchFrame
  | .flashMin => s.cfg.flashMin
  | .flashMax => s.cfg.flashMax
  | .regPeriod => s.cfg.regPeriod
  | .vTarget => s.cfg.vTarget.setWidth 32
  | .vNum => s.cfg.vNum.setWidth 32
  | .vDen => s.cfg.vDen.setWidth 32
  | .dutyMin => s.cfg.dutyMin.setWidth 32
  | .dutyMax => s.cfg.dutyMax.setWidth 32
  | .dutyInit => s.cfg.dutyInit.setWidth 32
  | .msgCount => s.cfg.msgCount.setWidth 32
  | .loneDot => (loneDotCode s.cfg.loneDot).setWidth 32
  | .disablePolicy => (disablePolicyCode s.cfg.disablePolicy).setWidth 32
  | .buf k => (cellCode s.buf[k]).setWidth 32
  | .custom k => s.custom[k].setWidth 32
  | .stage k => s.stage[k].setWidth 32
  | .digitPin k => s.cfg.digitPin[k].setWidth 32
  | .segPin i => s.cfg.segPin[i].setWidth 32

end Sys2Proof.Machine
end

