-- ==== Sys2Proof/Machine/HostCommands.lean ====
section
/-! DEFINITION. The host commands NOP, FLAGS, TCLR, TAPP, TCOMMIT and RD (48_host_commands.md). -/

namespace Sys2Proof.Machine

/-- NOP: no state changes (48_host_commands.md R270). -/
def execNop (s : State) : Host.Outcome State Fault Refusal := .next s

/-- FLAGS (48_host_commands.md R272). -/
def execFlags (c e : BitVec 1) (s : State) : Host.Outcome State Fault Refusal :=
  .next (s.setFlags c e)

/-- TCLR (48_host_commands.md R274). -/
def execTclr (s : State) : Host.Outcome State Fault Refusal :=
  .next { s with stageLen := 0#5, stage := tabulate 16 fun _ => 0x20#8 }

/-- The staging buffer with one byte appended, the byte discarded where `STAGE_LEN >= N_eff`
(48_host_commands.md R276). -/
def appendStaged (b : Byte) (s : State) : State :=
  if s.stageLen.toNat < s.nEff then
    { s with
      stage := s.stage.setIfInBounds s.stageLen.toNat b
      stageLen := s.stageLen + 1#5 }
  else s

/-- TAPP (48_host_commands.md R276). -/
def execTapp (b : Byte) (s : State) : Host.Outcome State Fault Refusal :=
  .next (appendStaged b s)

/-- The text TCOMMIT publishes: the staged bytes, then spaces (48_host_commands.md R278). -/
def committedText (s : State) : Vector Byte 16 :=
  tabulate 16 fun k => if k < s.stageLen.toNat then s.stage[k]?.getD 0x20#8 else 0x20#8

/-- TCOMMIT (48_host_commands.md R278). -/
def execTcommit (s : State) : Host.Outcome State Fault Refusal :=
  .next { s with custom := committedText s }

/-- RD: `RES` takes the register named by `b`; an unassigned number is an illegal command of cause 3 and leaves
`RES` unchanged (48_host_commands.md R280; log 10). -/
def execRd (b : Byte) (s : State) : Host.Outcome State Fault Refusal :=
  match regOf b with
  | some r => .next (s.setRes (readReg s r))
  | none => .next (raiseIllegal .badReg s)

end Sys2Proof.Machine
end

