-- ==== Sys2Proof/Machine/Dispatch.lean ====
section
/-! DEFINITION. One arm per command (30_encoding.md R93). -/

namespace Sys2Proof.Machine

def exec (i : Instr) (s : State) : Host.Outcome State Fault Refusal :=
  match i with
  | .nop => Sys2Proof.Machine.execNop s
  | .pass => Sys2Proof.Machine.execPass s
  | .enc b => Sys2Proof.Machine.execEnc b s
  | .pack d m => Sys2Proof.Machine.execPack d m s
  | .flags c e => Sys2Proof.Machine.execFlags c e s
  | .tclr => Sys2Proof.Machine.execTclr s
  | .tapp b => Sys2Proof.Machine.execTapp b s
  | .tcommit => Sys2Proof.Machine.execTcommit s
  | .rd b => Sys2Proof.Machine.execRd b s

end Sys2Proof.Machine
end

