-- ==== Sys2Proof/Machine/Port.lean ====
section
/-! DEFINITION. What one arrival at the ports does: a word on CMD is decoded and executed or recorded as
illegal (30_encoding.md R94, R95), a PASS of the host is refused (93_implementation_defined.md I19), RST resets
(70_reset_and_hazards.md R340). -/

namespace Sys2Proof.Machine

/-- A word on CMD: executed, or recorded as illegal (30_encoding.md R94, R95). -/
def runWord (w : Word) (s : State) : Host.Outcome State Fault Refusal :=
  match decode w with
  | .command i => exec i s
  | .illegal c => .next (raiseIllegal c s)

/-- The agent may issue the word: anything but a PASS of the host (70_reset_and_hazards.md R360; what the loop
agent may send, log 7). -/
def mayIssue (a : Agent) (w : Word) : Bool :=
  match a with
  | .loop => true
  | .host => decide (decode w ≠ .command .pass)

/-- A word on CMD with the agent that sent it: the model refuses a PASS of the host
(93_implementation_defined.md I19), every other word runs whoever sent it (60_exceptions.md R307). -/
def runCommand (a : Agent) (w : Word) (s : State) : Host.Outcome State Fault Refusal :=
  if mayIssue a w then runWord w s else .refused .hostPass

/-- RST with its record; an ill-formed configuration is refused (70_reset_and_hazards.md R340, R342). -/
def runReset (r : ResetRecord) (s : State) : Host.Outcome State Fault Refusal :=
  if cfgWf r.cfg then .next (s.takeReset r) else .refused .illFormedConfig

/-- One arrival. -/
def runEvent (ev : PortEvent) (s : State) : Host.Outcome State Fault Refusal :=
  match ev with
  | .command a w => runCommand a w s
  | .reset r => runReset r s

/-- The agent that issues a word: the loop agent issues PASS, the host every other command (00_scope.md R19). -/
def issuerOf (w : Word) : Agent := if decode w = .command .pass then .loop else .host

/-- The word of a table row's low `nbits` bits, the bits above them 0. -/
def tableWord (nbits w : Nat) : Word := BitVec.ofNat 32 (w % 2 ^ nbits)

end Sys2Proof.Machine
end

