-- ==== Sys2Proof/Machine/Step.lean ====
section
/-! DEFINITION. One step: the next arrival at the ports. An idle CMD port reads the all-zero word, which is NOP
(48_host_commands.md R270; log 4). -/

namespace Sys2Proof.Machine

/-- One step of the CORE: take the next arrival and run it (20_memory.md R75, R77). -/
def step (s : State) : Host.Outcome State Fault Refusal :=
  match s.port with
  | [] => runWord 0#32 s
  | ev :: _ => runEvent ev s.dropEvent

/-- The state whose very next arrival is the word `w` on CMD (log 3). -/
def State.withFetchWord (s : State) (nbits w : Nat) : State :=
  { s with port := .command (issuerOf (tableWord nbits w)) (tableWord nbits w) :: s.port }

end Sys2Proof.Machine
end

