-- ==== Sys2Proof/Machine/Assembler.lean ====
section
/-! DEFINITION. The assembler lines and pseudo-instructions of 30_encoding.md R97 and R98, and the placing of an
assembled program at the ports. What the two rules leave open of the text (white space, where a comment and a
character literal may stand, `<base>` and `<auto>` as numbers) is DESIGN CHOICE, log 16, safe. -/

namespace Sys2Proof.Machine

/-- A line of assembler text with its operands as numbers (30_encoding.md R97, R98). A PASS carries no operand;
its PASS_IN record is an annotation, listed apart (`placeProgram`). -/
inductive AsmLine where
  | nop
  | pass
  | enc (b : Nat)
  | pack (d m : Nat)
  | flags (base auto : Nat)
  | tclr
  | tapp (b : Nat)
  | tcommit
  | rd (b : Nat)
  /-- `TEXT "<s>"` (30_encoding.md R98). -/
  | text (t : Text)
  /-- `RDBUF <k>` (30_encoding.md R98). -/
  | rdbuf (k : Nat)
  /-- `PASSES <k>`, its annotations listed apart (30_encoding.md R98). -/
  | passes (k : Nat)
  deriving DecidableEq, Repr

/-- The commands a line stands for; none where an operand is out of its field's range, which is an assembly
error (30_encoding.md R97, R98). -/
def assembleLine : AsmLine → Option (List Instr)
  | .nop => some [.nop]
  | .pass => some [.pass]
  | .enc b => if b ≤ 255 then some [.enc (BitVec.ofNat 8 b)] else none
  | .pack d m => if d ≤ 31 ∧ m ≤ 255 then some [.pack (BitVec.ofNat 5 d) (BitVec.ofNat 8 m)] else none
  | .flags c e => if c ≤ 1 ∧ e ≤ 1 then some [.flags (BitVec.ofNat 1 c) (BitVec.ofNat 1 e)] else none
  | .tclr => some [.tclr]
  | .tapp b => if b ≤ 255 then some [.tapp (BitVec.ofNat 8 b)] else none
  | .tcommit => some [.tcommit]
  | .rd b => if b ≤ 255 then some [.rd (BitVec.ofNat 8 b)] else none
  | .text t => some (.tclr :: t.map Instr.tapp ++ [.tcommit])
  | .rdbuf k => if k ≤ 15 then some [.rd (BitVec.ofNat 8 (0x40 + k))] else none
  | .passes k => some (List.replicate k .pass)

/-- The commands of a program, none where a line does not assemble. -/
def assembleLines : List AsmLine → Option (List Instr)
  | [] => some []
  | l :: ls =>
    match assembleLine l, assembleLines ls with
    | some is, some rest => some (is ++ rest)
    | _, _ => none

/-- A command as it arrives on CMD from the agent that issues it (00_scope.md R19). -/
def commandEvent (i : Instr) : PortEvent := .command (issuerOf (encode i)) (encode i)

/-- The state with a program's words still to arrive on CMD and its annotations on PASS_IN, in order
(30_encoding.md R97, R98; log 3). -/
def State.placeProgram (s : State) (is : List Instr) (annotations : List PassIn) : State :=
  { s with port := s.port ++ is.map commandEvent, passIn := s.passIn ++ annotations }

/-- The pieces of a line of text. -/
inductive AsmToken where
  | word (w : List Char)
  | number (n : Nat)
  | quoted (t : Text)
  | comma
  | openBracket
  | closeBracket
  deriving DecidableEq, Repr

/-- A character of a mnemonic, a register name or a number. -/
def isWordChar (c : Char) : Bool := c.isAlphanum || decide (c.toNat = 0x5F)

/-- The value of a hexadecimal digit. -/
def hexDigit (c : Char) : Option Nat :=
  if c.isDigit then some (c.toNat - 0x30)
  else if 0x61 ≤ c.toLower.toNat ∧ c.toLower.toNat ≤ 0x66 then some (c.toLower.toNat - 0x61 + 10)
  else none

/-- A number read in a base, its digits from the left. -/
def readDigits (base : Nat) : Nat → List Char → Option Nat
  | acc, [] => some acc
  | acc, c :: cs =>
    match hexDigit c with
    | some v => if v < base then readDigits base (acc * base + v) cs else none
    | none => none

/-- A number, decimal or `0x` hexadecimal (30_encoding.md R97). -/
def readNumber : List Char → Option Nat
  | [] => none
  | ['0', 'x'] => none
  | '0' :: 'x' :: ds => readDigits 16 0 ds
  | ds => readDigits 10 0 ds

/-- The tokens of a line; `fuel` is at least its length. A ';' begins a comment, `'c'` is a character literal
standing for its ASCII code (30_encoding.md R97). DESIGN CHOICE, log 16, safe: R97 gives the literal to `<byte>` alone
and knows ASCII alone; here it is a number token and so may stand wherever a number may, and a character 0x80 to 0xFF,
in a literal or a quoted text, stands for its code point. -/
def tokensOf : Nat → List Char → Option (List AsmToken)
  | 0, cs => if cs.isEmpty then some [] else none
  | _ + 1, [] => some []
  | fuel + 1, c :: cs =>
    if c.toNat = 0x20 ∨ c.toNat = 0x09 then tokensOf fuel cs
    else if c.toNat = 0x3B then some []
    else if c.toNat = 0x2C then (tokensOf fuel cs).map (.comma :: ·)
    else if c.toNat = 0x5B then (tokensOf fuel cs).map (.openBracket :: ·)
    else if c.toNat = 0x5D then (tokensOf fuel cs).map (.closeBracket :: ·)
    else if c.toNat = 0x27 then
      match cs with
      | a :: b :: rest =>
        if b.toNat = 0x27 then (tokensOf fuel rest).map (.number a.toNat :: ·) else none
      | _ => none
    else if c.toNat = 0x22 then
      let body := cs.takeWhile fun a => decide (a.toNat ≠ 0x22)
      match cs.dropWhile (fun a => decide (a.toNat ≠ 0x22)) with
      | _ :: rest =>
        if body.all fun a => decide (a.toNat ≤ 255) then
          (tokensOf fuel rest).map (.quoted (body.map fun a => BitVec.ofNat 8 a.toNat) :: ·)
        else none
      | [] => none
    else if isWordChar c then
      let w := c :: cs.takeWhile isWordChar
      let rest := tokensOf fuel (cs.dropWhile isWordChar)
      if c.isDigit then
        match readNumber w with
        | some n => rest.map (.number n :: ·)
        | none => none
      else rest.map (.word w :: ·)
    else none

/-- The names of the registers that are not arrays (20_memory.md R72, 30_encoding.md R97). -/
def namedRegs : List (List Char × Reg) :=
  [("STATUS".toList, .status), ("MODE".toList, .mode), ("FLAGS".toList, .flags), ("MUX_IDX".toList, .muxIdx),
   ("MUX_LAST".toList, .muxLast), ("FRAME".toList, .frame), ("TX_COUNT".toList, .txCount), ("DUTY".toList, .duty),
   ("REG_LAST".toList, .regLast), ("PHASE_END".toList, .phaseEnd), ("NEXT_FLASH".toList, .nextFlash),
   ("LAST_CONTENT".toList, .lastContent), ("LAST_GLITCH".toList, .lastGlitch), ("MSG_SEL".toList, .msgSel),
   ("STAGE_LEN".toList, .stageLen), ("N_eff".toList, .nEff), ("S_eff".toList, .sEff),
   ("REFRESH_Q".toList, .refreshQ), ("BASE_REFRESH".toList, .baseRefresh), ("GLITCH_IN_DUR".toList, .glitchInDur),
   ("FLASH_DUR".toList, .flashDur), ("GLITCH_OUT_DUR".toList, .glitchOutDur), ("GLITCH_FRAME".toList, .glitchFrame),
   ("FLASH_MIN".toList, .flashMin), ("FLASH_MAX_eff".toList, .flashMax), ("REG_PERIOD".toList, .regPeriod),
   ("V_TARGET".toList, .vTarget), ("V_NUM".toList, .vNum), ("V_DEN_eff".toList, .vDen),
   ("DUTY_MIN".toList, .dutyMin), ("DUTY_MAX_eff".toList, .dutyMax), ("DUTY_INIT_eff".toList, .dutyInit),
   ("M".toList, .msgCount), ("LONE_DOT".toList, .loneDot), ("DISABLE_POLICY".toList, .disablePolicy)]

/-- The names of the register arrays: the number of element 0 and how many elements there are
(20_memory.md R72, 30_encoding.md R97). -/
def namedArrays : List (List Char × Nat × Nat) :=
  [("BUF".toList, 0x40, 16), ("CUSTOM".toList, 0x50, 16), ("STAGE".toList, 0x60, 16),
   ("DIGIT_PIN".toList, 0x70, 16), ("SEG_PIN".toList, 0x80, 8)]

/-- The number of a register given by number or by name (30_encoding.md R97). -/
def regOperand : List AsmToken → Option Nat
  | [.number n] => some n
  | [.word w] => (namedRegs.lookup w).map fun r => (regNumber r).toNat
  | [.word w, .openBracket, .number k, .closeBracket] =>
    match namedArrays.lookup w with
    | some (first, count) => if k < count then some (first + k) else none
    | none => none
  | _ => none

/-- `<base>`: CLOCK is 0, CUSTOM is 1 (30_encoding.md R97). DESIGN CHOICE, log 16, safe: R97 gives the names with
their codes in brackets; the codes 0 and 1 written as numbers are taken too. -/
def baseOperand : AsmToken → Option Nat
  | .number n => some n
  | .word w => if w = "CLOCK".toList then some 0 else if w = "CUSTOM".toList then some 1 else none
  | _ => none

/-- `<auto>`: OFF is 0, ON is 1 (30_encoding.md R97). DESIGN CHOICE, log 16, safe: as for `<base>`, the codes 0
and 1 written as numbers are taken too. -/
def autoOperand : AsmToken → Option Nat
  | .number n => some n
  | .word w => if w = "OFF".toList then some 0 else if w = "ON".toList then some 1 else none
  | _ => none

/-- The line a mnemonic, in upper case, and its operands name (30_encoding.md R97, R98). -/
def lineOf (mnemonic : List Char) (ops : List AsmToken) : Option AsmLine :=
  if mnemonic = "NOP".toList then (if ops = [] then some .nop else none)
  else if mnemonic = "PASS".toList then (if ops = [] then some .pass else none)
  else if mnemonic = "ENC".toList then
    match ops with
    | [.number b] => some (.enc b)
    | _ => none
  else if mnemonic = "PACK".toList then
    match ops with
    | [.number d, .comma, .number m] => some (.pack d m)
    | _ => none
  else if mnemonic = "FLAGS".toList then
    match ops with
    | [b, .comma, a] =>
      match baseOperand b, autoOperand a with
      | some c, some e => some (.flags c e)
      | _, _ => none
    | _ => none
  else if mnemonic = "TCLR".toList then (if ops = [] then some .tclr else none)
  else if mnemonic = "TAPP".toList then
    match ops with
    | [.number b] => some (.tapp b)
    | _ => none
  else if mnemonic = "TCOMMIT".toList then (if ops = [] then some .tcommit else none)
  else if mnemonic = "RD".toList then (regOperand ops).map .rd
  else if mnemonic = "TEXT".toList then
    match ops with
    | [.quoted t] => some (.text t)
    | _ => none
  else if mnemonic = "RDBUF".toList then
    match ops with
    | [.number k] => some (.rdbuf k)
    | _ => none
  else if mnemonic = "PASSES".toList then
    match ops with
    | [.number k] => some (.passes k)
    | _ => none
  else none

/-- One line of assembler text: mnemonics are case-insensitive (30_encoding.md R97). -/
def parseLine (cs : List Char) : Option AsmLine :=
  match tokensOf cs.length cs with
  | some (.word w :: ops) => lineOf (w.map Char.toUpper) ops
  | _ => none

/-- The commands one line of assembler text stands for (30_encoding.md R97, R98). -/
def assembleText (cs : List Char) : Option (List Instr) :=
  match parseLine cs with
  | some l => assembleLine l
  | none => none

end Sys2Proof.Machine
end

