-- ==== Sys2Proof/Safety.lean ====
section
/-! DEFINITION. The terms the statements use: the invariant of the CORE (10_state.md R44 and the rules it rests
on), the duties of the agents and the environment (70_reset_and_hazards.md R360, R362), runs of passes, and the
ownership of state (10_state.md R42). -/

namespace Sys2Proof.Machine

/-! ### The invariant -/

/-- What the clamps of reset leave of the configuration (10_state.md R20). -/
abbrev CfgInv (e : EffCfg) : Prop :=
  (1 ≤ e.nEff.toNat ∧ e.nEff.toNat ≤ 16 ∧ e.sEff.toNat ≤ 8) ∧
  (∀ k : Fin 16, e.digitPin[k].toNat ≤ 23 ∧ (e.nEff.toNat ≤ k.val → e.digitPin[k] = 0#5)) ∧
  (∀ i : Fin 8, e.segPin[i].toNat ≤ 23 ∧ (e.sEff.toNat ≤ i.val → e.segPin[i] = 0#5)) ∧
  (e.refreshQ.toNat < 2 ^ 31 ∧ e.baseRefresh.toNat < 2 ^ 31 ∧ e.glitchInDur.toNat < 2 ^ 31 ∧
    e.flashDur.toNat < 2 ^ 31 ∧ e.glitchOutDur.toNat < 2 ^ 31 ∧ e.glitchFrame.toNat < 2 ^ 31 ∧
    e.flashMax.toNat < 2 ^ 31 ∧ e.regPeriod.toNat < 2 ^ 31) ∧
  e.flashMin.toNat ≤ e.flashMax.toNat ∧
  1 ≤ e.vDen.toNat ∧
  (e.dutyMin.toNat ≤ e.dutyInit.toNat ∧ e.dutyInit.toNat ≤ e.dutyMax.toNat)

/-- The constraints a well-formed configuration puts on the ROMs, kept by loading them
(70_reset_and_hazards.md R342); `M` is the number of messages (10_state.md R20). -/
abbrev RomInv (s : State) : Prop :=
  charRomWf s.rom.charRom s.rom.charDef = true ∧
  (s.rom.msgTable.length ≤ 255 ∧ s.cfg.msgCount.toNat = s.rom.msgTable.length) ∧
  (∀ t ∈ s.rom.msgTable, t.length ≤ 255) ∧
  s.rom.glitchAlphabet.length ≤ 255 ∧ s.rom.errText.length ≤ 255

/-- STATUS: the reserved bits read 0, `ILL` says whether a cause is recorded, the cause is a code that can be
recorded, `CFG_DUP` tells of the pin map (10_state.md R23, 60_exceptions.md R301). -/
abbrev StatusInv (s : State) : Prop :=
  s.status &&& 0xFFFFF0E0#32 = 0#32 ∧
  (statusIll s.status = true ↔ statusIllCause s.status ≠ 0#4) ∧
  (statusIllCause s.status).toNat ≤ 3 ∧
  statusCfgDup s.status = cfgDuplicate s.cfg

/-- The text buffers (10_state.md R26, R27, 48_host_commands.md R276, R278). -/
abbrev TextInv (s : State) : Prop :=
  s.stageLen.toNat ≤ s.nEff ∧
  (∀ k : Fin 16, s.stageLen.toNat ≤ k.val → s.stage[k] = 0x20#8) ∧
  (∀ k : Fin 16, s.nEff ≤ k.val → s.custom[k] = 0x20#8)

/-- The display buffer: cells beyond `N_eff` keep their reset value, no symbol is a lowercase letter
(10_state.md R28, 43_display_buffer.md R152). -/
abbrev BufInv (s : State) : Prop :=
  (∀ k : Fin 16, s.nEff ≤ k.val → s.buf[k] = blankCell) ∧
  (∀ k : Fin 16, isLowerCode s.buf[k].sym.toNat = false)

/-- The frame selects at most one digit (10_state.md R44). -/
abbrev AtMostOneDigit (e : EffCfg) (f : Frame) : Prop :=
  ∀ j k : Fin 16, j.val < e.nEff.toNat → k.val < e.nEff.toNat →
    f.getLsbD e.digitPin[j].toNat = true → f.getLsbD e.digitPin[k].toNat = true → j = k

/-- The multiplexer's registers and the TX port: `MUX_IDX < N_eff`, `TX_COUNT` counts the events, `FRAME` is the
last of them, each event carries the bytes of its frame, and a valid pin map gives at most one digit
(10_state.md R29, R31, R32, R44, 42_frame_packer.md R134). -/
abbrev MuxInv (s : State) : Prop :=
  s.muxIdx.toNat < s.nEff ∧
  s.txCount = BitVec.ofNat 32 s.tx.length ∧
  s.frame = (match s.tx.getLast? with | some ev => ev.frame | none => 0#24) ∧
  (∀ ev ∈ s.tx, ev = txEvent ev.frame ∧ (cfgDuplicate s.cfg = false → AtMostOneDigit s.cfg ev.frame))

/-- `DUTY_MIN <= DUTY <= DUTY_MAX_eff` (10_state.md R33, R44). -/
abbrev DutyInv (s : State) : Prop :=
  s.cfg.dutyMin.toNat ≤ s.duty.toNat ∧ s.duty.toNat ≤ s.cfg.dutyMax.toNat

/-- The selected message exists, or is number 0 (10_state.md R39, 45_mode_machine.md R197). -/
abbrev MessageInv (s : State) : Prop :=
  s.msgSel.toNat < s.cfg.msgCount.toNat ∨ s.msgSel = 0#8

/-- The invariant of the CORE. `MODE` needs no clause: its type has the four values only (10_state.md R44). -/
abbrev CoreInv (s : State) : Prop :=
  CfgInv s.cfg ∧ RomInv s ∧ StatusInv s ∧ TextInv s ∧ BufInv s ∧ MuxInv s ∧ DutyInv s ∧ MessageInv s

/-- The pin map is valid: its live entries are pairwise distinct (10_state.md R43). -/
abbrev PinMapValid (e : EffCfg) : Prop :=
  (∀ j k : Fin 16, j.val < e.nEff.toNat → k.val < e.nEff.toNat → e.digitPin[j] = e.digitPin[k] → j = k) ∧
  (∀ i l : Fin 8, i.val < e.sEff.toNat → l.val < e.sEff.toNat → e.segPin[i] = e.segPin[l] → i = l) ∧
  (∀ (k : Fin 16) (i : Fin 8), k.val < e.nEff.toNat → i.val < e.sEff.toNat → e.digitPin[k] ≠ e.segPin[i])

/-! ### Runs of passes -/

/-- Consecutive passes, one per input record. -/
def runPasses : List PassIn → State → State
  | [], s => s
  | p :: ps, s => runPasses ps (runPass p s)

/-- The passes at which a stage with the quantum `q`, last run at `last`, is due; the others are no-ops of the
stage and leave its clock as it is (44_multiplexer.md R170, R173, 46_regulator.md R231). -/
def duePasses (q : Word) : Word → List PassIn → List PassIn
  | _, [] => []
  | last, p :: ps =>
    if q ≤ elapsed p.now last then p :: duePasses q p.now ps else duePasses q last ps

/-- A pass of a scripted run: its distance from the run's start in ticks, the flags the host has set by then,
its inputs. -/
structure ScriptedPass where
  offset : Nat
  flags : BitVec 2
  input : PassIn
  deriving DecidableEq, Repr

/-- The passes of a script, the flags rewritten before each. -/
def runScript : List ScriptedPass → State → State
  | [], s => s
  | q :: qs, s => runScript qs (runPass q.input { s with flags := q.flags })

/-- Every pass of the script comes at most `spacing` ticks after the one before it and not before it
(45_mode_machine.md R206, 70_reset_and_hazards.md R362). -/
def CadenceFrom (t0 : Word) (spacing : Nat) : Nat → List ScriptedPass → Prop
  | _, [] => True
  | o, q :: qs =>
    o ≤ q.offset ∧ q.offset ≤ o + spacing ∧ q.input.now = t0 + BitVec.ofNat 32 q.offset ∧
    CadenceFrom t0 spacing q.offset qs

/-- The meanings of consecutive commands, up to the first that does not give a next state. -/
def execSeq : List Instr → State → Host.Outcome State Fault Refusal
  | [], s => .next s
  | i :: is, s =>
    match exec i s with
    | .next t => execSeq is t
    | .fault r => .fault r
    | .refused r => .refused r

/-! ### Ownership and duties -/

/-- The state only PASS may change (10_state.md R42): the mode stage's, the regulator stage's and the multiplexer
stage's registers, the display buffer and the TX port. -/
abbrev SameLoopState (s t : State) : Prop :=
  t.mode = s.mode ∧ t.phaseEnd = s.phaseEnd ∧ t.nextFlash = s.nextFlash ∧ t.lastContent = s.lastContent ∧
  t.lastGlitch = s.lastGlitch ∧ t.msgSel = s.msgSel ∧ t.buf = s.buf ∧
  statusTimeErr t.status = statusTimeErr s.status ∧
  t.duty = s.duty ∧ t.regLast = s.regLast ∧ statusVDisc t.status = statusVDisc s.status ∧
  t.muxIdx = s.muxIdx ∧ t.muxLast = s.muxLast ∧ t.frame = s.frame ∧ t.txCount = s.txCount ∧ t.tx = s.tx

/-- The state only the host's commands may change (10_state.md R42). -/
abbrev SameHostState (s t : State) : Prop :=
  t.flags = s.flags ∧ t.stage = s.stage ∧ t.stageLen = s.stageLen ∧ t.custom = s.custom ∧ t.res = s.res

/-- The state only reset may change (10_state.md R42, R23). -/
abbrev SameConfig (s t : State) : Prop :=
  t.cfg = s.cfg ∧ t.rom = s.rom ∧
  statusCfgClamp t.status = statusCfgClamp s.status ∧ statusCfgDup t.status = statusCfgDup s.status

/-- The time source's duty on two successive values of `now` (70_reset_and_hazards.md R362). -/
def timeDuty (before after : Word) : Bool := decide ((after - before).toNat < 2 ^ 31)

/-- An arrival to which the model gives a meaning: everything but RST with an ill-formed record
(70_reset_and_hazards.md R342) and a PASS of the host (93_implementation_defined.md I19). -/
def arrivalWf : PortEvent → Bool
  | .command a w => mayIssue a w
  | .reset r => cfgWf r.cfg

/-! ### What a pass reads -/

/-- The current phase has ended (45_mode_machine.md R198). -/
abbrev PhaseEnded (now : Word) (s : State) : Prop := 0 ≤ (now - s.phaseEnd).toInt

/-- The end of the phase cuts the cycle short (45_mode_machine.md R200). -/
abbrev CutShort (s : State) : Prop := s.cfg.disablePolicy = .endAtPhase ∧ s.flags ≠ 2#2

/-- A pass at `now` starts a flash cycle (45_mode_machine.md R198). -/
abbrev StartsCycle (now : Word) (s : State) : Prop :=
  s.mode = .base ∧ s.flags = 2#2 ∧ 0 ≤ (now - s.nextFlash).toInt

/-- A pass at `now` calls `return_to_base` (45_mode_machine.md R198). -/
abbrev ReturnsToBase (now : Word) (s : State) : Prop :=
  PhaseEnded now s ∧ (s.mode = .glitchOut ∨ ((s.mode = .glitchIn ∨ s.mode = .flash) ∧ CutShort s))

/-- A pass at `now` calls `enter_flash` (45_mode_machine.md R198). -/
abbrev EntersFlash (now : Word) (s : State) : Prop :=
  s.mode = .glitchIn ∧ PhaseEnded now s ∧ ¬ CutShort s

/-- A pass at `now` calls `write_base` (45_mode_machine.md R198). -/
abbrev WritesBase (now : Word) (s : State) : Prop :=
  ReturnsToBase now s ∨
  (s.mode = .base ∧ ¬ StartsCycle now s ∧ s.cfg.baseRefresh.toNat ≤ (now - s.lastContent).toNat)

/-- A pass at `now` calls `write_glitch` (45_mode_machine.md R198). -/
abbrev WritesGlitch (now : Word) (s : State) : Prop :=
  StartsCycle now s ∨ (s.mode = .flash ∧ PhaseEnded now s ∧ ¬ CutShort s) ∨
  ((s.mode = .glitchIn ∨ s.mode = .glitchOut) ∧ ¬ PhaseEnded now s ∧
    s.cfg.glitchFrame.toNat ≤ (now - s.lastGlitch).toNat)

/-- A pass at `now` is a tick of the regulator (46_regulator.md R231). -/
abbrev RegulatorTicks (now : Word) (s : State) : Prop :=
  s.cfg.regPeriod.toNat ≤ (now - s.regLast).toNat

/-- Two samples agree on every field that a pass reads from the state `s` (00_scope.md R12): the time always,
each other field only where the rule that reads it applies. -/
abbrev AgreeOnRead (s : State) (p q : PassIn) : Prop :=
  q.now = p.now ∧
  (ReturnsToBase p.now s → q.rInt = p.rInt) ∧
  (EntersFlash p.now s → s.cfg.msgCount ≠ 0#8 → q.rMsg = p.rMsg) ∧
  (WritesGlitch p.now s → s.rom.glitchAlphabet ≠ [] →
    ∀ j : Fin 16, j.val < s.nEff → q.rGl[j] = p.rGl[j]) ∧
  (WritesBase p.now s → s.flags.getLsbD 0 = false → q.wcValid = p.wcValid ∧
    (p.wcValid = true →
      q.wcHour = p.wcHour ∧ q.wcMin = p.wcMin ∧ q.wcSec = p.wcSec ∧ q.wcYday = p.wcYday)) ∧
  (RegulatorTicks p.now s → q.vConn = p.vConn ∧ (p.vConn = true → q.vRaw = p.vRaw))

/-! ### Shapes of a next state -/

/-- `t` is what `return_to_base` leaves of the mode stage's state: BASE, base content and a new schedule
(45_mode_machine.md R192). -/
abbrev ReturnedToBase (p : PassIn) (s t : State) : Prop :=
  t.mode = .base ∧ t.phaseEnd = s.phaseEnd ∧ t.lastGlitch = s.lastGlitch ∧ t.msgSel = s.msgSel ∧
  t.lastContent = p.now ∧
  t.nextFlash = p.now + s.cfg.flashMin +
    BitVec.ofNat 32 (p.rInt.toNat % (s.cfg.flashMax.toNat - s.cfg.flashMin.toNat + 1)) ∧
  statusTimeErr t.status = (if s.flags.getLsbD 0 = true then statusTimeErr s.status else !p.wcValid) ∧
  t.buf = contentCells s.cfg.loneDot s.nEff (baseText p s) s.buf

/-- `t` is what a pass leaves of the mode stage's state while a glitch phase lasts: a fresh text when `GLITCH_FRAME` has elapsed, else nothing
(45_mode_machine.md R198). -/
abbrev GlitchFrameWhileStaying (p : PassIn) (s t : State) : Prop :=
  t.mode = s.mode ∧ t.phaseEnd = s.phaseEnd ∧ t.nextFlash = s.nextFlash ∧ t.msgSel = s.msgSel ∧
  t.lastContent = s.lastContent ∧ statusTimeErr t.status = statusTimeErr s.status ∧
  if s.cfg.glitchFrame.toNat ≤ (p.now - s.lastGlitch).toNat then
    t.lastGlitch = p.now ∧ t.buf = contentCells s.cfg.loneDot s.nEff (glitchText p s) s.buf
  else t.lastGlitch = s.lastGlitch ∧ t.buf = s.buf

/-- What RD of an assigned number gives: `RES` and nothing else (48_host_commands.md R280). -/
abbrev RdGives (s : State) (b : Nat) (v : Nat) : Prop :=
  ∃ t, exec (.rd (BitVec.ofNat 8 b)) s = .next t ∧ t = { s with res := t.res } ∧ t.res.toNat = v

/-! ### The scan of set_content as the source writes it -/

/-- The `while` loop of 43_display_buffer.md R152 on the index `i`, one turn per unit of fuel. -/
def scanLoop (lone : LoneDot) (n : Nat) (t : Text) : Nat → Nat → List Cell → List Cell
  | 0, _, cells => cells
  | fuel + 1, i, cells =>
    if i < t.length ∧ cells.length < n then
      let c := fold (t.getD i 0#8)
      if c = 0x2E#8 ∧ lone = .drop then scanLoop lone n t fuel (i + 1) cells
      else if i + 1 < t.length ∧ t.getD (i + 1) 0#8 = 0x2E#8 then
        scanLoop lone n t fuel (i + 2) (cells ++ [{ sym := c, dot := true }])
      else scanLoop lone n t fuel (i + 1) (cells ++ [{ sym := c, dot := false }])
    else cells

end Sys2Proof.Machine
end

