-- ==== Sys2Proof/Certificates/Slice0/Obligations.lean ====
section
/-! DEFINITION. The statements for the provers. Each docstring names the rules of spec/ it formalises.
`s.sample` is the PASS_IN record a PASS samples and `s.dropSample` the state after the sampling (log 5). -/

open Sys2Proof Sys2Proof.Machine

/-! ### Encoding -/

/-- Decoding the word of a command gives the command back (30_encoding.md R91 to R94). -/
def Obligations.DecodeEncodeRoundTrip : Prop :=
  ∀ i : Instr, i.wf = true → decode (encode i) = .command i

/-- Two words never name one command, and what is decoded is well-formed (30_encoding.md R95: no aliases). -/
def Obligations.LegalWordIsItsEncoding : Prop :=
  ∀ (w : Word) (i : Instr), decode w = .command i → i.wf = true ∧ encode i = w

/-- The opcode map, row by row with the table's match and mask; a word that matches the RD row with an
unassigned number is illegal (30_encoding.md R93). -/
def Obligations.DecodeFollowsOpcodeMap : Prop :=
  ∀ w : Word,
    (decode w = .command .nop ↔ w &&& 0xFFFFFFFF#32 = 0x00000000#32) ∧
    (decode w = .command .pass ↔ w &&& 0xFFFFFFFF#32 = 0x10000000#32) ∧
    ((∃ b, decode w = .command (.enc b)) ↔ w &&& 0xFFFFFF00#32 = 0x20000000#32) ∧
    ((∃ d m, decode w = .command (.pack d m)) ↔ w &&& 0xFFFFE000#32 = 0x30000000#32) ∧
    ((∃ c e, decode w = .command (.flags c e)) ↔ w &&& 0xFFFFFFFC#32 = 0x40000000#32) ∧
    (decode w = .command .tclr ↔ w &&& 0xFFFFFFFF#32 = 0x50000000#32) ∧
    ((∃ b, decode w = .command (.tapp b)) ↔ w &&& 0xFFFFFF00#32 = 0x60000000#32) ∧
    (decode w = .command .tcommit ↔ w &&& 0xFFFFFFFF#32 = 0x70000000#32) ∧
    ((∃ b, decode w = .command (.rd b)) ↔
      w &&& 0xFFFFFF00#32 = 0x80000000#32 ∧ assigned (w.extractLsb' 0 8) = true) ∧
    (w &&& 0xFFFFFF00#32 = 0x80000000#32 → assigned (w.extractLsb' 0 8) = false →
      decode w = .illegal .badReg) ∧
    (9 ≤ (w >>> 28).toNat → decode w = .illegal .reservedOp)

/-- The decoder is the function of 30_encoding.md R94: the tests in its order, each cause the first that applies,
and the operands from the fields it names. -/
def Obligations.DecodeRunsTheOrderedTests : Prop :=
  ∀ w : Word,
    let op := (w >>> 28).toNat
    let reservedSet : Prop :=
      ((op = 0 ∨ op = 1 ∨ op = 5 ∨ op = 7) ∧ w &&& 0x0FFFFFFF#32 ≠ 0#32) ∨
      ((op = 2 ∨ op = 6 ∨ op = 8) ∧ w &&& 0x0FFFFF00#32 ≠ 0#32) ∨
      (op = 3 ∧ w &&& 0x0FFFE000#32 ≠ 0#32) ∨
      (op = 4 ∧ w &&& 0x0FFFFFFC#32 ≠ 0#32)
    let number := w.toNat % 256
    let unassigned : Prop := number = 0x0F ∨ (0x24 ≤ number ∧ number ≤ 0x3F) ∨ 0x88 ≤ number
    (9 ≤ op → decode w = .illegal .reservedOp) ∧
    (op < 9 → reservedSet → decode w = .illegal .reservedBits) ∧
    (op = 8 → ¬ reservedSet → unassigned → decode w = .illegal .badReg) ∧
    (op < 9 → ¬ reservedSet → ¬ (op = 8 ∧ unassigned) → decode w = .command
      (match op with
        | 0 => .nop
        | 1 => .pass
        | 2 => .enc (w.extractLsb' 0 8)
        | 3 => .pack (w.extractLsb' 8 5) (w.extractLsb' 0 8)
        | 4 => .flags (w.extractLsb' 0 1) (w.extractLsb' 1 1)
        | 5 => .tclr
        | 6 => .tapp (w.extractLsb' 0 8)
        | 7 => .tcommit
        | _ => .rd (w.extractLsb' 0 8)))

/-- The unassigned register numbers, and that every register is named by its number (20_memory.md R72). -/
def Obligations.RegisterNumbersAssigned : Prop :=
  (∀ b : Byte, assigned b = false ↔
    b = 0x0F#8 ∨ (0x24 ≤ b.toNat ∧ b.toNat ≤ 0x3F) ∨ 0x88 ≤ b.toNat) ∧
  (∀ r : Reg, regOf (regNumber r) = some r)

/-- Words written out from the formats of 30_encoding.md R91 decode to their commands. -/
def Obligations.SampleWordsDecode : Prop :=
  decode 0x00000000#32 = .command .nop ∧
  decode 0x10000000#32 = .command .pass ∧
  decode 0x20000061#32 = .command (.enc 0x61#8) ∧
  decode 0x30000106#32 = .command (.pack 1#5 0x06#8) ∧
  decode 0x40000001#32 = .command (.flags 1#1 0#1) ∧
  decode 0x60000064#32 = .command (.tapp 0x64#8) ∧
  decode 0x80000042#32 = .command (.rd 0x42#8) ∧
  decode 0x9ABCDEF0#32 = .illegal .reservedOp

/-- Lines of assembler text and the commands they stand for (30_encoding.md R97, R98; white space, comments and
quotes are the model's choice, log 16). -/
def Obligations.AssemblerLinesAssemble : Prop :=
  assembleText "pack 1, 0x06".toList = some [.pack 1#5 0x06#8] ∧
  assembleText "FLAGS CUSTOM, OFF".toList = some [.flags 1#1 0#1] ∧
  assembleText "RD BUF[2]  ; a cell".toList = some [.rd 0x42#8] ∧
  assembleText "ENC 'a'".toList = some [.enc 0x61#8] ∧
  assembleText "ENC 256".toList = none ∧
  (∀ t : Text, assembleLine (.text t) = some (.tclr :: t.map Instr.tapp ++ [.tcommit])) ∧
  (∀ k, k ≤ 15 → assembleLine (.rdbuf k) = some [.rd (BitVec.ofNat 8 (0x40 + k))])

/-! ### The step -/

/-- A step runs the decoded command, once the word has been taken from CMD (20_memory.md R75, R77; the queue of
arrivals is the model's, log 3). The premise leaves out the PASS of the host, which `HostPassIsRefused` covers. -/
def Obligations.StepRunsDecodedCommand : Prop :=
  ∀ (s : State) (a : Agent) (w : Word) (rest : List PortEvent) (i : Instr),
    s.port = .command a w :: rest → decode w = .command i → (a = .host → i ≠ .pass) →
    step s = exec i { s with port := rest }

/-- A PASS sent by the host is refused, every other word of the host, legal or not, and every word of the loop
agent completes (93_implementation_defined.md I19, 70_reset_and_hazards.md R360, 60_exceptions.md R300, R307). That
the loop agent may send any word is the model's choice (log 7). -/
def Obligations.HostPassIsRefused : Prop :=
  ∀ (s : State) (w : Word) (rest : List PortEvent),
    (s.port = .command .host w :: rest →
      (decode w = .command .pass → step s = .refused .hostPass) ∧
      (decode w ≠ .command .pass → ∃ t, step s = .next t)) ∧
    (s.port = .command .loop w :: rest → ∃ t, step s = .next t)

/-- An illegal word sets `ILL`, records the first cause by its code and changes nothing else
(60_exceptions.md R302; codes of R301, bits of 10_state.md R23). -/
def Obligations.StepRecordsIllegalWord : Prop :=
  ∀ (s : State) (a : Agent) (w : Word) (rest : List PortEvent) (c : IllegalCause),
    s.port = .command a w :: rest → decode w = .illegal c →
    ∃ t, step s = .next t ∧ t = { s with port := rest, status := t.status } ∧
      t.status.getLsbD 0 = true ∧
      (t.status.extractLsb' 8 4).toNat =
        (if s.status.extractLsb' 8 4 = 0#4 then
          (match c with
            | .reservedOp => 1
            | .reservedBits => 2
            | .badReg => 3)
        else (s.status.extractLsb' 8 4).toNat) ∧
      (∀ j, j ≠ 0 → j < 8 ∨ 12 ≤ j → t.status.getLsbD j = s.status.getLsbD j)

/-- An idle port reads the all-zero word, which is NOP: no state changes (48_host_commands.md R270). That a step
with nothing at the ports is an idle port is the model's choice (log 4). -/
def Obligations.IdlePortKeepsState : Prop :=
  ∀ s : State, s.port = [] → step s = .next s

/-- RST loads the record's reset values whatever the state was, and an ill-formed record is refused
(70_reset_and_hazards.md R340, R342). That what is still to arrive at the ports stays is the model's (log 12). -/
def Obligations.StepTakesReset : Prop :=
  ∀ (s : State) (r : ResetRecord) (rest : List PortEvent), s.port = .reset r :: rest →
    (cfgWf r.cfg = true →
      step s = .next { State.resetWith r with
        port := rest, passIn := s.passIn, freeSamples := s.freeSamples }) ∧
    (cfgWf r.cfg = false → step s = .refused .illFormedConfig)

/-- No condition stops the CORE: every arrival but RST with an ill-formed record and a PASS of the host gives a
next state (60_exceptions.md R300, 70_reset_and_hazards.md R342, 93_implementation_defined.md I19). -/
def Obligations.NoArrivalStopsTheCore : Prop :=
  ∀ s : State, (∀ ev ∈ s.port.head?, arrivalWf ev = true) → ∃ t, step s = .next t

/-- Only RST changes the configuration, the ROMs, `CFG_CLAMP` and `CFG_DUP`
(10_state.md R20, R23, R42, 70_reset_and_hazards.md R340). -/
def Obligations.CommandsKeepConfiguration : Prop :=
  ∀ (s t : State), (∀ r, s.port.head? ≠ some (.reset r)) → step s = .next t → SameConfig s t

/-- `ILL` and the recorded cause are sticky: no word on CMD clears or changes them
(60_exceptions.md R302, R303, 10_state.md R23). -/
def Obligations.IllegalRecordIsSticky : Prop :=
  ∀ (s t : State), (∀ r, s.port.head? ≠ some (.reset r)) → step s = .next t →
    (statusIll s.status = true → statusIll t.status = true) ∧
    (statusIllCause s.status ≠ 0#4 → statusIllCause t.status = statusIllCause s.status)

/-- No command word of the host, legal or not, changes state of the loop agent
(10_state.md R42, 70_reset_and_hazards.md R360). -/
def Obligations.HostCommandsKeepLoopState : Prop :=
  ∀ (s t : State) (w : Word) (rest : List PortEvent),
    s.port = .command .host w :: rest → step s = .next t → SameLoopState s t

/-- NOP, ENC, PACK, RD, FLAGS, TCLR and TCOMMIT give the same state when repeated (20_memory.md R75). -/
def Obligations.CommandsIdempotent : Prop :=
  ∀ (i : Instr) (s t : State), i ≠ .pass → (∀ b, i ≠ .tapp b) → i.wf = true →
    exec i s = .next t → exec i t = .next t

/-! ### Reset -/

/-- The reset values of every register (70_reset_and_hazards.md R341, 10_state.md R22 to R39). -/
def Obligations.ResetRegisterValues : Prop :=
  ∀ r : ResetRecord,
    let s := State.resetWith r
    s.res = 0#32 ∧
    (∀ j, j ≠ 3 → j ≠ 4 → s.status.getLsbD j = false) ∧
    (s.flags.getLsbD 0 = false ∧ s.flags.getLsbD 1 = r.cfg.autoEnReset) ∧
    s.mode = .base ∧
    ((∀ k : Fin 16, s.stage[k] = 0x20#8) ∧ s.stageLen = 0#5) ∧
    (∀ k : Fin 16, s.custom[k] = 0x20#8) ∧
    (∀ k : Fin 16, s.buf[k].sym = 0x20#8 ∧ s.buf[k].dot = false) ∧
    s.muxIdx = 0#4 ∧
    s.muxLast = r.t0 - s.cfg.refreshQ ∧
    s.frame = 0#24 ∧
    s.txCount = 0#32 ∧
    s.duty = s.cfg.dutyInit ∧
    s.regLast = r.t0 ∧
    s.phaseEnd = r.t0 ∧
    s.nextFlash = r.t0 + s.cfg.flashMin +
      BitVec.ofNat 32 (r.rRst.toNat % (s.cfg.flashMax.toNat - s.cfg.flashMin.toNat + 1)) ∧
    s.lastContent = r.t0 - s.cfg.baseRefresh ∧
    s.lastGlitch = r.t0 ∧
    s.msgSel = 0#8 ∧
    s.tx = []

/-- The effective configuration after reset, field by field (10_state.md R20), the ROMs as given
(70_reset_and_hazards.md R340). -/
def Obligations.EffectiveConfigurationValues : Prop :=
  ∀ r : ResetRecord, cfgWf r.cfg = true →
    let c := r.cfg
    let s := State.resetWith r
    let e := s.cfg
    e.nEff.toNat = min (max c.n.toNat 1) 16 ∧
    e.sEff.toNat = min c.s.toNat 8 ∧
    (∀ k : Fin 16, e.digitPin[k].toNat = if k.val < e.nEff.toNat then min c.digitPin[k].toNat 23 else 0) ∧
    (∀ i : Fin 8, e.segPin[i].toNat = if i.val < e.sEff.toNat then min c.segPin[i].toNat 23 else 0) ∧
    e.refreshQ.toNat = min c.refreshQ.toNat (2 ^ 31 - 1) ∧
    e.baseRefresh.toNat = min c.baseRefresh.toNat (2 ^ 31 - 1) ∧
    e.glitchInDur.toNat = min c.glitchInDur.toNat (2 ^ 31 - 1) ∧
    e.flashDur.toNat = min c.flashDur.toNat (2 ^ 31 - 1) ∧
    e.glitchOutDur.toNat = min c.glitchOutDur.toNat (2 ^ 31 - 1) ∧
    e.glitchFrame.toNat = min c.glitchFrame.toNat (2 ^ 31 - 1) ∧
    e.flashMin.toNat = min c.flashMin.toNat (2 ^ 31 - 1) ∧
    e.regPeriod.toNat = min c.regPeriod.toNat (2 ^ 31 - 1) ∧
    e.flashMax.toNat = max e.flashMin.toNat (min c.flashMax.toNat (2 ^ 31 - 1)) ∧
    e.vTarget = c.vTarget ∧
    e.vNum = c.vNum ∧
    e.vDen.toNat = max c.vDen.toNat 1 ∧
    e.dutyMin = c.dutyMin ∧
    e.dutyMax.toNat = max c.dutyMin.toNat c.dutyMax.toNat ∧
    e.dutyInit.toNat = min (max c.dutyInit.toNat c.dutyMin.toNat) e.dutyMax.toNat ∧
    e.msgCount.toNat = c.msgTable.length ∧
    e.loneDot = c.loneDot ∧
    e.disablePolicy = c.disablePolicy ∧
    (s.rom.charRom = c.charRom ∧ s.rom.msgTable = c.msgTable ∧ s.rom.glitchAlphabet = c.glitchAlphabet ∧
      s.rom.fmtTime = c.fmtTime ∧ s.rom.errText = c.errText)

/-- `CFG_CLAMP` after reset tells whether one of the eight conditions holds, `CFG_DUP` whether the live pin
indices are not pairwise distinct (70_reset_and_hazards.md R342). -/
def Obligations.ConfigurationFlagsReported : Prop :=
  ∀ r : ResetRecord,
    let c := r.cfg
    let s := State.resetWith r
    (s.status.getLsbD 3 = true ↔
      (c.n.toNat = 0 ∨ 16 < c.n.toNat) ∨
      8 < c.s.toNat ∨
      ((∃ k : Fin 16, k.val < s.cfg.nEff.toNat ∧ 23 < c.digitPin[k].toNat) ∨
        (∃ i : Fin 8, i.val < s.cfg.sEff.toNat ∧ 23 < c.segPin[i].toNat)) ∨
      (2 ^ 31 - 1 < c.refreshQ.toNat ∨ 2 ^ 31 - 1 < c.baseRefresh.toNat ∨ 2 ^ 31 - 1 < c.glitchInDur.toNat ∨
        2 ^ 31 - 1 < c.flashDur.toNat ∨ 2 ^ 31 - 1 < c.glitchOutDur.toNat ∨ 2 ^ 31 - 1 < c.glitchFrame.toNat ∨
        2 ^ 31 - 1 < c.flashMin.toNat ∨ 2 ^ 31 - 1 < c.flashMax.toNat ∨ 2 ^ 31 - 1 < c.regPeriod.toNat) ∨
      min c.flashMax.toNat (2 ^ 31 - 1) < s.cfg.flashMin.toNat ∨
      c.vDen.toNat = 0 ∨
      c.dutyMax.toNat < c.dutyMin.toNat ∨
      (c.dutyInit.toNat < c.dutyMin.toNat ∨ s.cfg.dutyMax.toNat < c.dutyInit.toNat)) ∧
    (s.status.getLsbD 4 = true ↔ ¬ PinMapValid s.cfg)

/-- A record has a meaning exactly when its ROM parameters keep their constraints
(70_reset_and_hazards.md R342, 41_encoder.md R112). Leaving the entries 0x61-0x7A unconstrained and the codes of
the printable punctuation are the model's readings (logs 8 and 9). -/
def Obligations.WellFormedConfigurationMeaning : Prop :=
  ∀ c : Cfg, cfgWf c = true ↔
    (0x20#8 ∈ c.charDef ∧ (∀ d, d < 10 → BitVec.ofNat 8 (0x30 + d) ∈ c.charDef)) ∧
    (∀ b ∈ c.charDef, 0x20 ≤ b.toNat ∧ b.toNat ≤ 0x7E ∧ ¬ (0x61 ≤ b.toNat ∧ b.toNat ≤ 0x7A)) ∧
    c.charRom[0x20] = 0#8 ∧
    (∀ k : Fin 256, BitVec.ofNat 8 k.val ∉ c.charDef → ¬ (0x61 ≤ k.val ∧ k.val ≤ 0x7A) → c.charRom[k] = 0#8) ∧
    c.msgTable.length ≤ 255 ∧
    (∀ t ∈ c.msgTable, t.length ≤ 255) ∧
    c.glitchAlphabet.length ≤ 255 ∧
    c.errText.length ≤ 255

/-- The first pass after reset with `now = T0`: base content, no regulator tick unless `REG_PERIOD = 0`, digit 0
transmitted (70_reset_and_hazards.md R343). Premise: the first flash is not already due at `T0`; log 17. -/
def Obligations.FirstPassAfterReset : Prop :=
  ∀ (r : ResetRecord) (p : PassIn) (s : State),
    s = { State.resetWith r with passIn := [p] } → p.now = r.t0 →
    (r.cfg.autoEnReset = false ∨ s.nextFlash ≠ r.t0) →
    ∃ t, exec .pass s = .next t ∧
      t.mode = .base ∧ t.lastContent = r.t0 ∧
      t.buf = contentCells s.cfg.loneDot s.nEff (baseText p s) s.buf ∧
      (s.cfg.regPeriod ≠ 0#32 →
        t.duty = s.duty ∧ t.regLast = s.regLast ∧ statusVDisc t.status = statusVDisc s.status) ∧
      t.frame = pack s.cfg 0#5 (cellMask s.rom t.buf[0]) ∧ t.tx = [txEvent t.frame] ∧ t.txCount = 1#32

/-! ### The invariant -/

/-- The invariant holds after reset with any well-formed record (10_state.md R44). -/
def Obligations.ResetMeetsInvariant : Prop :=
  ∀ r : ResetRecord, cfgWf r.cfg = true → CoreInv (State.resetWith r)

/-- The invariant holds at the one reset state the model names (10_state.md R44; its record is the model's choice,
log 1). -/
def Obligations.NamedResetMeetsInvariant : Prop :=
  CoreInv State.reset

/-- Every step keeps the invariant: `MUX_IDX < N_eff`, the duty bounds, `STAGE_LEN <= N_eff`, at most one digit in
`FRAME` under a valid pin map (10_state.md R44), with the clauses on the configuration, STATUS, the buffers and
TX (10_state.md R20, R23, R26 to R32). -/
def Obligations.EveryStepKeepsInvariant : Prop :=
  ∀ s t : State, CoreInv s → step s = .next t → CoreInv t

/-! ### ENC and PACK -/

/-- ENC writes `CHAR_ROM` of the folded symbol, zero-extended, to RES and nothing else; a code outside DEF gives 0
(41_encoder.md R111, R113, R114). -/
def Obligations.EncLooksUpFoldedSymbol : Prop :=
  ∀ (b : Byte) (s : State), ∃ (c : Byte) (t : State),
    exec (.enc b) s = .next t ∧ t = { s with res := t.res } ∧
    c.toNat = (if 0x61 ≤ b.toNat ∧ b.toNat ≤ 0x7A then b.toNat - 0x20 else b.toNat) ∧
    t.res.toNat = (s.rom.charRom[c.toNat]'c.isLt).toNat ∧
    (charRomWf s.rom.charRom s.rom.charDef = true → c ∉ s.rom.charDef → t.res = 0#32)

/-- PACK writes to RES, bit by bit, the digit-select bit where `d < N_eff` and the lit segment lines below
`S_eff`, and nothing else (42_frame_packer.md R131, R132, R133, R136). -/
def Obligations.PackSetsItsLines : Prop :=
  ∀ (d : BitVec 5) (m : Byte) (s : State), s.cfg.nEff.toNat ≤ 16 →
    ∃ t, exec (.pack d m) s = .next t ∧ t = { s with res := t.res } ∧
      ∀ p, t.res.getLsbD p = true ↔ p < 24 ∧
        ((∃ k : Fin 16, k.val = d.toNat ∧ k.val < s.cfg.nEff.toNat ∧ s.cfg.digitPin[k].toNat = p) ∨
          (∃ i : Fin 8, i.val < s.cfg.sEff.toNat ∧ m.getLsbD i.val = true ∧ s.cfg.segPin[i].toNat = p))

/-- Mutual exclusion and round trip of `pack` under a valid pin map (42_frame_packer.md R137, the spec's own
inference from R131). -/
def Obligations.PackRoundTripOnValidMap : Prop :=
  ∀ (e : EffCfg) (d : BitVec 5) (m : Byte), CfgInv e → PinMapValid e → d.toNat < e.nEff.toNat →
    let f := pack e d m
    (∀ k : Fin 16, k.val < e.nEff.toNat → (f.getLsbD e.digitPin[k].toNat = true ↔ k.val = d.toNat)) ∧
    (∀ i : Fin 8, i.val < e.sEff.toNat → f.getLsbD e.segPin[i].toNat = m.getLsbD i.val) ∧
    (∀ p, f.getLsbD p = true →
      (∃ k : Fin 16, k.val < e.nEff.toNat ∧ e.digitPin[k].toNat = p) ∨
      (∃ i : Fin 8, i.val < e.sEff.toNat ∧ e.segPin[i].toNat = p))

/-- The three bytes of a TX event: output `p` is byte ⌊(23-p)/8⌋, bit 7 - ((23-p) mod 8), and equally
`FB[k][j] = f[16 - 8k + j]` (42_frame_packer.md R134). -/
def Obligations.FrameBytesArePhysicalLayout : Prop :=
  ∀ f : Frame,
    let ev := txEvent f
    (∀ p, p < 24 →
      (if (23 - p) / 8 = 0 then ev.fb0 else if (23 - p) / 8 = 1 then ev.fb1 else ev.fb2).getLsbD
        (7 - (23 - p) % 8) = f.getLsbD p) ∧
    (∀ j, j < 8 → ev.fb0.getLsbD j = f.getLsbD (16 + j) ∧ ev.fb1.getLsbD j = f.getLsbD (8 + j) ∧
      ev.fb2.getLsbD j = f.getLsbD j) ∧
    ev.frame = f

/-- The inverse map: output `p` is bit `p mod 8` of `FB[2 - ⌊p/8⌋]`, and the three bytes give the frame back
(42_frame_packer.md R135, the spec's own inference from R134). -/
def Obligations.FrameRecoveredFromBytes : Prop :=
  ∀ f : Frame,
    let ev := txEvent f
    (∀ p, p < 24 →
      (if 2 - p / 8 = 0 then ev.fb0 else if 2 - p / 8 = 1 then ev.fb1 else ev.fb2).getLsbD (p % 8) =
        f.getLsbD p) ∧
    f = ev.fb0 ++ ev.fb1 ++ ev.fb2

/-! ### The display buffer -/

/-- `set_content` is the source's index loop, padded and reversed, on folded symbols; the cells beyond `N_eff` and
every other register are untouched (43_display_buffer.md R152, R154). -/
def Obligations.SetContentFollowsTheLoop : Prop :=
  ∀ (t : Text) (s : State), s.nEff ≤ 16 →
    let cells := scanLoop s.cfg.loneDot s.nEff t t.length 0 []
    let u := setContent t s
    u = { s with buf := u.buf } ∧
    (∀ k : Fin 16, k.val < s.nEff → u.buf[k] = cells.getD (s.nEff - 1 - k.val) blankCell ∧
      ¬ (0x61 ≤ u.buf[k].sym.toNat ∧ u.buf[k].sym.toNat ≤ 0x7A)) ∧
    (∀ k : Fin 16, s.nEff ≤ k.val → u.buf[k] = s.buf[k])

/-- A text with no '.' of at most `N_eff` bytes is stored folded, padded and reversed
(43_display_buffer.md R156, the spec's own inference from R152). -/
def Obligations.PlainTextStoredReversed : Prop :=
  ∀ (t : Text) (s : State), s.nEff ≤ 16 → t.length ≤ s.nEff → 0x2E#8 ∉ t →
    let u := t ++ List.replicate (s.nEff - t.length) 0x20#8
    ∀ k : Fin 16, k.val < s.nEff →
      (setContent t s).buf[k] = { sym := fold (u.getD (s.nEff - 1 - k.val) 0#8), dot := false }

/-- What follows a text that fills all cells is discarded, but for a '.' that the last cell takes
(43_display_buffer.md R153, the spec's own inference from R152). -/
def Obligations.OverflowingTextDiscarded : Prop :=
  ∀ (t u : Text) (s : State),
    (scanCells s.cfg.loneDot s.nEff t).length = s.nEff → u.head? ≠ some 0x2E#8 →
    setContent (t ++ u) s = setContent t s

/-- The source's example: "AB.C" with `N = 4`, the same under both values of `LONE_DOT`
(43_display_buffer.md R155, 95_test_vectors.md L1.1). -/
def Obligations.InlineDotExample : Prop :=
  ∀ (s : State), s.nEff = 4 →
    (setContent [0x41#8, 0x42#8, 0x2E#8, 0x43#8] s).buf.toList.take 4 =
      [{ sym := 0x20#8, dot := false }, { sym := 0x43#8, dot := false }, { sym := 0x42#8, dot := true },
        { sym := 0x41#8, dot := false }]

/-! ### PASS: the mode stage -/

/-- The base content: the first `N_eff` bytes of the custom text in custom mode, else the formatted time, or the
error text while the wall clock is unavailable (45_mode_machine.md R191). -/
def Obligations.BaseTextSelectsSource : Prop :=
  ∀ (p : PassIn) (s : State), s.nEff ≤ 16 →
    (s.flags.getLsbD 0 = true → (baseText p s).length = s.nEff ∧
      ∀ k : Fin 16, k.val < s.nEff → (baseText p s)[k.val]? = some s.custom[k]) ∧
    (s.flags.getLsbD 0 = false → p.wcValid = true →
      baseText p s = formatTime s.rom.fmtTime p.wcHour p.wcMin p.wcSec p.wcYday) ∧
    (s.flags.getLsbD 0 = false → p.wcValid = false → baseText p s = s.rom.errText)

/-- The mode stage in BASE: a due flash starts GLITCH_IN with a glitch text; else a due refresh writes the base
content and, in clock mode, `TIME_ERR`; else nothing (45_mode_machine.md R198, R192, R194). -/
def Obligations.BaseModeStage : Prop :=
  ∀ (s : State) (p : PassIn), s.sample = p → s.mode = .base →
    ∃ t, exec .pass s = .next t ∧ t.msgSel = s.msgSel ∧ t.nextFlash = s.nextFlash ∧
      if s.flags = 2#2 ∧ 0 ≤ (p.now - s.nextFlash).toInt then
        t.mode = .glitchIn ∧ t.phaseEnd = p.now + s.cfg.glitchInDur ∧ t.lastGlitch = p.now ∧
        t.lastContent = s.lastContent ∧ statusTimeErr t.status = statusTimeErr s.status ∧
        t.buf = contentCells s.cfg.loneDot s.nEff (glitchText p s) s.buf
      else if s.cfg.baseRefresh.toNat ≤ (p.now - s.lastContent).toNat then
        t.mode = .base ∧ t.phaseEnd = s.phaseEnd ∧ t.lastGlitch = s.lastGlitch ∧
        t.lastContent = p.now ∧
        statusTimeErr t.status =
          (if s.flags.getLsbD 0 = true then statusTimeErr s.status else !p.wcValid) ∧
        t.buf = contentCells s.cfg.loneDot s.nEff (baseText p s) s.buf
      else
        t.mode = .base ∧ t.phaseEnd = s.phaseEnd ∧ t.lastGlitch = s.lastGlitch ∧
        t.lastContent = s.lastContent ∧ statusTimeErr t.status = statusTimeErr s.status ∧ t.buf = s.buf

/-- The mode stage in GLITCH_IN: at the phase's end FLASH with the selected message, or BASE under END_AT_PHASE
with the feature off; else glitch frames (45_mode_machine.md R198, R192, R197, R200). -/
def Obligations.GlitchInModeStage : Prop :=
  ∀ (s : State) (p : PassIn), s.sample = p → s.mode = .glitchIn →
    ∃ t, exec .pass s = .next t ∧
      if 0 ≤ (p.now - s.phaseEnd).toInt then
        if s.cfg.disablePolicy = .endAtPhase ∧ s.flags ≠ 2#2 then ReturnedToBase p s t
        else
          t.mode = .flash ∧ t.phaseEnd = p.now + s.cfg.flashDur ∧ t.nextFlash = s.nextFlash ∧
          t.lastGlitch = s.lastGlitch ∧ t.lastContent = s.lastContent ∧
          statusTimeErr t.status = statusTimeErr s.status ∧
          t.msgSel.toNat =
            (if s.cfg.msgCount = 0#8 then 0 else p.rMsg.toNat % s.cfg.msgCount.toNat) ∧
          t.buf = contentCells s.cfg.loneDot s.nEff
            (if s.cfg.msgCount = 0#8 then [] else s.rom.msgTable.getD t.msgSel.toNat []) s.buf
      else GlitchFrameWhileStaying p s t

/-- The mode stage in FLASH: the message is held; at the phase's end GLITCH_OUT with a glitch text, or BASE under
END_AT_PHASE with the feature off (45_mode_machine.md R198, R192, R200). -/
def Obligations.FlashModeStage : Prop :=
  ∀ (s : State) (p : PassIn), s.sample = p → s.mode = .flash →
    ∃ t, exec .pass s = .next t ∧
      if 0 ≤ (p.now - s.phaseEnd).toInt then
        if s.cfg.disablePolicy = .endAtPhase ∧ s.flags ≠ 2#2 then ReturnedToBase p s t
        else
          t.mode = .glitchOut ∧ t.phaseEnd = p.now + s.cfg.glitchOutDur ∧ t.nextFlash = s.nextFlash ∧
          t.lastGlitch = p.now ∧ t.lastContent = s.lastContent ∧ t.msgSel = s.msgSel ∧
          statusTimeErr t.status = statusTimeErr s.status ∧
          t.buf = contentCells s.cfg.loneDot s.nEff (glitchText p s) s.buf
      else
        t.mode = .flash ∧ t.phaseEnd = s.phaseEnd ∧ t.nextFlash = s.nextFlash ∧
        t.lastGlitch = s.lastGlitch ∧ t.lastContent = s.lastContent ∧ t.msgSel = s.msgSel ∧
        statusTimeErr t.status = statusTimeErr s.status ∧ t.buf = s.buf

/-- The mode stage in GLITCH_OUT: at the phase's end BASE, under both policies; else glitch frames
(45_mode_machine.md R198, R192, R200). -/
def Obligations.GlitchOutModeStage : Prop :=
  ∀ (s : State) (p : PassIn), s.sample = p → s.mode = .glitchOut →
    ∃ t, exec .pass s = .next t ∧
      if 0 ≤ (p.now - s.phaseEnd).toInt then ReturnedToBase p s t
      else GlitchFrameWhileStaying p s t

/-- A glitch text has exactly `N_eff` bytes, byte `j` drawn by `r_gl[j]` from the alphabet, a space where the
alphabet is empty (45_mode_machine.md R195). -/
def Obligations.GlitchTextDrawsFromAlphabet : Prop :=
  ∀ (p : PassIn) (s : State), s.nEff ≤ 16 →
    (glitchText p s).length = s.nEff ∧
    ∀ j : Fin 16, j.val < s.nEff →
      (s.rom.glitchAlphabet = [] → (glitchText p s)[j.val]? = some 0x20#8) ∧
      (∀ h : 0 < s.rom.glitchAlphabet.length, (glitchText p s)[j.val]? =
        some (s.rom.glitchAlphabet[p.rGl[j].toNat % s.rom.glitchAlphabet.length]'(Nat.mod_lt _ h)))

/-- The mode changes only along the cycle, each change at its exit condition, at most one in a pass
(45_mode_machine.md R199, R200, R203). -/
def Obligations.ModeFollowsTransitionTable : Prop :=
  ∀ (s : State), ∃ t, exec .pass s = .next t ∧
    let now := s.sample.now
    let ended := 0 ≤ (now - s.phaseEnd).toInt
    let cut := s.cfg.disablePolicy = .endAtPhase ∧ s.flags ≠ 2#2
    (t.mode = .glitchIn ↔
      (s.mode = .base ∧ s.flags = 2#2 ∧ 0 ≤ (now - s.nextFlash).toInt) ∨ (s.mode = .glitchIn ∧ ¬ ended)) ∧
    (t.mode = .flash ↔ (s.mode = .glitchIn ∧ ended ∧ ¬ cut) ∨ (s.mode = .flash ∧ ¬ ended)) ∧
    (t.mode = .glitchOut ↔ (s.mode = .flash ∧ ended ∧ ¬ cut) ∨ (s.mode = .glitchOut ∧ ¬ ended)) ∧
    (t.mode = .base ↔
      (s.mode = .base ∧ ¬ (s.flags = 2#2 ∧ 0 ≤ (now - s.nextFlash).toInt)) ∨
      ((s.mode = .glitchIn ∨ s.mode = .flash) ∧ ended ∧ cut) ∨ (s.mode = .glitchOut ∧ ended))

/-- `NEXT_FLASH` moves only on a return to BASE, then into the window, both ends included; every value of the
window is reached by some random word (45_mode_machine.md R196, R201). -/
def Obligations.NextFlashWithinWindow : Prop :=
  ∀ s : State, CfgInv s.cfg → ∃ t, exec .pass s = .next t ∧
    (¬ (s.mode ≠ .base ∧ t.mode = .base) → t.nextFlash = s.nextFlash) ∧
    (s.mode ≠ .base → t.mode = .base →
      ∃ k, s.cfg.flashMin.toNat ≤ k ∧ k ≤ s.cfg.flashMax.toNat ∧
        k = s.cfg.flashMin.toNat +
          s.sample.rInt.toNat % (s.cfg.flashMax.toNat - s.cfg.flashMin.toNat + 1) ∧
        t.nextFlash = s.sample.now + BitVec.ofNat 32 k) ∧
    (∀ k, s.cfg.flashMin.toNat ≤ k → k ≤ s.cfg.flashMax.toNat →
      ∃ r : Word, flashInterval s.cfg.flashMin s.cfg.flashMax r = k)

/-- Liveness of the flash cycle: from GLITCH_IN entered at `t0`, with passes at most `P` ticks apart and whatever
the flags do, BASE comes within the three durations and `3P`, if a pass comes later than that; under COMPLETE_CYCLE
through FLASH, entered within `P` of the glitch's end, and GLITCH_OUT (45_mode_machine.md R206, whose bound the spec
marks as its own inference from R198). -/
def Obligations.FlashCycleReachesBase : Prop :=
  ∀ (s : State) (t0 : Word) (P : Nat) (script : List ScriptedPass),
    let dIn := s.cfg.glitchInDur.toNat
    let dFlash := s.cfg.flashDur.toNat
    let dOut := s.cfg.glitchOutDur.toNat
    let modeAfter := fun k => (runScript (script.take k) s).mode
    let offsetOf := fun k => (script.map ScriptedPass.offset).getD k 0
    s.mode = .glitchIn → s.phaseEnd = t0 + s.cfg.glitchInDur →
    dIn + P < 2 ^ 31 → dFlash + P < 2 ^ 31 → dOut + P < 2 ^ 31 →
    CadenceFrom t0 P 0 script →
    (∃ q ∈ script, dIn + dFlash + dOut + 3 * P < q.offset) →
    (∃ k, k < script.length ∧ offsetOf k ≤ dIn + dFlash + dOut + 3 * P ∧ modeAfter (k + 1) = .base) ∧
    (s.cfg.disablePolicy = .completeCycle →
      ∃ k1 k2 k3, k1 < k2 ∧ k2 < k3 ∧ k3 < script.length ∧
        modeAfter (k1 + 1) = .flash ∧ dIn ≤ offsetOf k1 ∧ offsetOf k1 ≤ dIn + P ∧
        modeAfter (k2 + 1) = .glitchOut ∧
        modeAfter (k3 + 1) = .base ∧ offsetOf k3 ≤ dIn + dFlash + dOut + 3 * P)

/-! ### PASS: the regulator stage -/

/-- The regulator stage: nothing unless due; a disconnected sensor holds the duty; else one step toward the
target, clamped, by exact comparison (46_regulator.md R231, R232, R233, R234). -/
def Obligations.RegulatorMovesByOneStep : Prop :=
  ∀ (s : State) (p : PassIn), s.sample = p →
    ∃ t, exec .pass s = .next t ∧
      if (p.now - s.regLast).toNat < s.cfg.regPeriod.toNat then
        t.regLast = s.regLast ∧ t.duty = s.duty ∧ statusVDisc t.status = statusVDisc s.status
      else
        t.regLast = p.now ∧ statusVDisc t.status = !p.vConn ∧
        (p.vConn = false → t.duty = s.duty) ∧
        (p.vConn = true →
          (p.vRaw.toNat * s.cfg.vNum.toNat < s.cfg.vTarget.toNat * s.cfg.vDen.toNat →
            (t.duty.toNat : Int) = min (s.duty.toNat + 1) s.cfg.dutyMax.toNat) ∧
          (p.vRaw.toNat * s.cfg.vNum.toNat > s.cfg.vTarget.toNat * s.cfg.vDen.toNat →
            (t.duty.toNat : Int) = max (s.duty.toNat - 1) s.cfg.dutyMin.toNat) ∧
          (p.vRaw.toNat * s.cfg.vNum.toNat = s.cfg.vTarget.toNat * s.cfg.vDen.toNat → t.duty = s.duty))

/-- Monotonicity, over any list of passes: if every due tick among them has one connected sample below the target,
the duty rises by 1 a tick to the maximum and holds; if every due tick is disconnected it is unchanged. Passes that
are not due may stand anywhere, with any sample (46_regulator.md R237, the spec's own inference from R232;
70_reset_and_hazards.md R364). -/
def Obligations.RegulatorMonotoneToMaximum : Prop :=
  ∀ (s : State) (v : BitVec 16) (ps : List PassIn),
    let ticks := duePasses s.cfg.regPeriod s.regLast ps
    (s.duty.toNat ≤ s.cfg.dutyMax.toNat → v.toNat * s.cfg.vNum.toNat < s.cfg.vTarget.toNat * s.cfg.vDen.toNat →
      (∀ p ∈ ticks, p.vConn = true ∧ p.vRaw = v) →
      (runPasses ps s).duty.toNat = min (s.duty.toNat + ticks.length) s.cfg.dutyMax.toNat) ∧
    ((∀ p ∈ ticks, p.vConn = false) → (runPasses ps s).duty = s.duty)

/-- Inputs that a pass does not read have no effect: two samples that agree on what the pass reads give one next
state, whatever their other fields. `now` is read always, `r_int` on a return to BASE, `r_msg` on entering FLASH,
`r_gl[j]` below `N_eff` when a glitch text is written, the wall clock when base content is written in clock mode,
`v_conn` when the regulator is due and `v_raw` when it is also connected (00_scope.md R12, 45_mode_machine.md R191 to
R198, 46_regulator.md R231, R234). -/
def Obligations.UnreadInputsHaveNoEffect : Prop :=
  ∀ (s : State) (p q : PassIn) (rest : List PassIn), AgreeOnRead s p q →
    exec .pass { s with passIn := q :: rest } = exec .pass { s with passIn := p :: rest }

/-! ### PASS: the multiplexer stage and the whole pass -/

/-- The multiplexer stage: when `REFRESH_Q` has elapsed, the cell at `MUX_IDX`, as the mode stage of the same pass
left it, goes out as one frame on digit `MUX_IDX`; else nothing (44_multiplexer.md R170, R172, 20_memory.md R78). -/
def Obligations.MultiplexerAdvances : Prop :=
  ∀ (s : State) (p : PassIn), s.sample = p → 1 ≤ s.nEff → s.nEff ≤ 16 →
    ∃ t, exec .pass s = .next t ∧
      if (p.now - s.muxLast).toNat < s.cfg.refreshQ.toNat then
        t.muxIdx = s.muxIdx ∧ t.muxLast = s.muxLast ∧ t.frame = s.frame ∧ t.txCount = s.txCount ∧ t.tx = s.tx
      else
        t.muxIdx.toNat = (s.muxIdx.toNat + 1) % s.nEff ∧ t.muxLast = p.now ∧
        t.txCount = s.txCount + 1#32 ∧ t.tx = s.tx ++ [txEvent t.frame] ∧
        ∃ cell mask, cell = t.buf[s.muxIdx.toNat]'s.muxIdx.isLt ∧
          mask = (if cell.dot = true then encodeSymbol s.rom cell.sym ||| 0x80#8
            else encodeSymbol s.rom cell.sym) ∧
          t.frame = pack s.cfg (s.muxIdx.setWidth 5) mask

/-- Any `N_eff` consecutive advances send the digits once each, in increasing order modulo `N_eff` from the index
before the first, and under a valid pin map each digit line is driven by exactly one of the frames; passes at which
the multiplexer is not due may stand anywhere among them (44_multiplexer.md R173, R175, the spec's own inference from
R172). -/
def Obligations.EveryDigitOncePerCycle : Prop :=
  ∀ (s : State) (ps : List PassIn), CfgInv s.cfg → s.muxIdx.toNat < s.nEff →
    (duePasses s.cfg.refreshQ s.muxLast ps).length = s.nEff →
    let t := runPasses ps s
    t.muxIdx = s.muxIdx ∧
    ∃ evs : List TxEvent, t.tx = s.tx ++ evs ∧ evs.length = s.nEff ∧
      (∀ j (hj : j < evs.length), ∃ mask,
        evs[j].frame = pack s.cfg (BitVec.ofNat 5 ((s.muxIdx.toNat + j) % s.nEff)) mask) ∧
      (PinMapValid s.cfg → ∀ k : Fin 16, k.val < s.nEff →
        ∃ j, ∃ hj : j < evs.length, evs[j].frame.getLsbD s.cfg.digitPin[k].toNat = true ∧
          ∀ j', ∀ hj' : j' < evs.length,
            evs[j'].frame.getLsbD s.cfg.digitPin[k].toNat = true → j' = j)

/-- PASS always completes; it leaves the host's state, the configuration, the other STATUS bits and the cells
beyond `N_eff` as they were, and makes at most one TX event (47_control_loop.md R250, R251, R253, R254,
10_state.md R28, R42). -/
def Obligations.PassFrame : Prop :=
  ∀ s : State, ∃ t, exec .pass s = .next t ∧
    SameHostState s t ∧ t.cfg = s.cfg ∧ t.rom = s.rom ∧
    (∀ j, j ≠ 1 → j ≠ 2 → t.status.getLsbD j = s.status.getLsbD j) ∧
    (∀ k : Fin 16, s.nEff ≤ k.val → t.buf[k] = s.buf[k]) ∧
    (t.tx = s.tx ∨ ∃ ev, t.tx = s.tx ++ [ev]) ∧
    t.port = s.port ∧ t.passIn = s.passIn.tail

/-- A PASS at which no stage is due changes no register and emits no TX event (47_control_loop.md R251). -/
def Obligations.PassWithNothingDue : Prop :=
  ∀ (s : State) (p : PassIn), s.sample = p →
    (s.mode = .base → ¬ (s.flags = 2#2 ∧ 0 ≤ (p.now - s.nextFlash).toInt) ∧
      (p.now - s.lastContent).toNat < s.cfg.baseRefresh.toNat) →
    (s.mode ≠ .base → (p.now - s.phaseEnd).toInt < 0) →
    (s.mode = .glitchIn ∨ s.mode = .glitchOut → (p.now - s.lastGlitch).toNat < s.cfg.glitchFrame.toNat) →
    (p.now - s.regLast).toNat < s.cfg.regPeriod.toNat →
    (p.now - s.muxLast).toNat < s.cfg.refreshQ.toNat →
    exec .pass s = .next s.dropSample

/-- The two time predicates: while the real distance is below 2^31 ticks `elapsed` is the distance, and `reached`
says that it is (00_scope.md R16, 70_reset_and_hazards.md R362). -/
def Obligations.TimePredicatesMeanDistance : Prop :=
  ∀ (now t : Word),
    (∀ d, d < 2 ^ 31 → now = t + BitVec.ofNat 32 d → (elapsed now t).toNat = d ∧ reached now t = true) ∧
    (reached now t = true ↔ timeDuty t now = true) ∧
    (∀ d, 0 < d → d ≤ 2 ^ 31 → now = t - BitVec.ofNat 32 d → reached now t = false)

/-! ### Host commands -/

/-- NOP leaves every register unchanged; the all-zero word is NOP, so an idle port reading zero does nothing, and a
word of opcode 0 with another bit set is illegal with cause 2 (48_host_commands.md R270). -/
def Obligations.NopChangesNothing : Prop :=
  (∀ s : State, exec .nop s = .next s ∧ runWord 0#32 s = .next s) ∧
  (∀ w : Word, w &&& 0xFFFFFFFF#32 = 0x00000000#32 → decode w = .command .nop) ∧
  (∀ w : Word, (w >>> 28).toNat = 0 → w.extractLsb' 0 28 ≠ 0#28 → decode w = .illegal .reservedBits)

/-- FLAGS sets the two mode flags together and nothing else (48_host_commands.md R272). -/
def Obligations.FlagsSetsBothFlags : Prop :=
  ∀ (c e : BitVec 1) (s : State), ∃ t, exec (.flags c e) s = .next t ∧ t = { s with flags := t.flags } ∧
    t.flags.getLsbD 0 = c.getLsbD 0 ∧ t.flags.getLsbD 1 = e.getLsbD 0

/-- TCLR empties the staging buffer and touches nothing else (48_host_commands.md R274). -/
def Obligations.TclrEmptiesStaging : Prop :=
  ∀ s : State, ∃ t, exec .tclr s = .next t ∧ t = { s with stage := t.stage, stageLen := 0#5 } ∧
    ∀ k : Fin 16, t.stage[k] = 0x20#8

/-- TAPP appends one byte while `STAGE_LEN < N_eff` and discards it silently otherwise
(48_host_commands.md R276). -/
def Obligations.TappAppendsOrDiscards : Prop :=
  ∀ (b : Byte) (s : State), s.nEff ≤ 16 →
    (s.stageLen.toNat < s.nEff → ∃ t, exec (.tapp b) s = .next t ∧
      t = { s with stage := t.stage, stageLen := t.stageLen } ∧
      t.stageLen.toNat = s.stageLen.toNat + 1 ∧
      ∀ k : Fin 16, t.stage[k] = if k.val = s.stageLen.toNat then b else s.stage[k]) ∧
    (s.nEff ≤ s.stageLen.toNat → exec (.tapp b) s = .next s)

/-- TCOMMIT publishes the staged text padded with spaces and touches nothing else (48_host_commands.md R278). -/
def Obligations.TcommitPublishesStaging : Prop :=
  ∀ s : State, ∃ t, exec .tcommit s = .next t ∧ t = { s with custom := t.custom } ∧
    ∀ k : Fin 16, t.custom[k] = if k.val < s.stageLen.toNat then s.stage[k] else 0x20#8

/-- RD, number by number over the whole register map; an unassigned number is illegal with cause 3 and leaves
`RES` unchanged (20_memory.md R72, 48_host_commands.md R280, 60_exceptions.md R302; as a term, log 10). -/
def Obligations.RdReadsRegisterMap : Prop :=
  ∀ s : State,
    RdGives s 0x00 s.status.toNat ∧
    RdGives s 0x01 (match s.mode with
      | .base => 0
      | .glitchIn => 1
      | .flash => 2
      | .glitchOut => 3) ∧
    RdGives s 0x02 s.flags.toNat ∧
    RdGives s 0x03 s.muxIdx.toNat ∧
    RdGives s 0x04 s.muxLast.toNat ∧
    RdGives s 0x05 s.frame.toNat ∧
    RdGives s 0x06 s.txCount.toNat ∧
    RdGives s 0x07 s.duty.toNat ∧
    RdGives s 0x08 s.regLast.toNat ∧
    RdGives s 0x09 s.phaseEnd.toNat ∧
    RdGives s 0x0A s.nextFlash.toNat ∧
    RdGives s 0x0B s.lastContent.toNat ∧
    RdGives s 0x0C s.lastGlitch.toNat ∧
    RdGives s 0x0D s.msgSel.toNat ∧
    RdGives s 0x0E s.stageLen.toNat ∧
    RdGives s 0x10 s.cfg.nEff.toNat ∧
    RdGives s 0x11 s.cfg.sEff.toNat ∧
    RdGives s 0x12 s.cfg.refreshQ.toNat ∧
    RdGives s 0x13 s.cfg.baseRefresh.toNat ∧
    RdGives s 0x14 s.cfg.glitchInDur.toNat ∧
    RdGives s 0x15 s.cfg.flashDur.toNat ∧
    RdGives s 0x16 s.cfg.glitchOutDur.toNat ∧
    RdGives s 0x17 s.cfg.glitchFrame.toNat ∧
    RdGives s 0x18 s.cfg.flashMin.toNat ∧
    RdGives s 0x19 s.cfg.flashMax.toNat ∧
    RdGives s 0x1A s.cfg.regPeriod.toNat ∧
    RdGives s 0x1B s.cfg.vTarget.toNat ∧
    RdGives s 0x1C s.cfg.vNum.toNat ∧
    RdGives s 0x1D s.cfg.vDen.toNat ∧
    RdGives s 0x1E s.cfg.dutyMin.toNat ∧
    RdGives s 0x1F s.cfg.dutyMax.toNat ∧
    RdGives s 0x20 s.cfg.dutyInit.toNat ∧
    RdGives s 0x21 s.cfg.msgCount.toNat ∧
    RdGives s 0x22 (if s.cfg.loneDot = .cell then 1 else 0) ∧
    RdGives s 0x23 (if s.cfg.disablePolicy = .endAtPhase then 1 else 0) ∧
    (∀ k : Fin 16, RdGives s (0x40 + k.val) (s.buf[k].sym.toNat + if s.buf[k].dot = true then 256 else 0)) ∧
    (∀ k : Fin 16, RdGives s (0x50 + k.val) s.custom[k].toNat) ∧
    (∀ k : Fin 16, RdGives s (0x60 + k.val) s.stage[k].toNat) ∧
    (∀ k : Fin 16, RdGives s (0x70 + k.val) s.cfg.digitPin[k].toNat) ∧
    (∀ i : Fin 8, RdGives s (0x80 + i.val) s.cfg.segPin[i].toNat) ∧
    (∀ b : Byte, b = 0x0F#8 ∨ (0x24 ≤ b.toNat ∧ b.toNat ≤ 0x3F) ∨ 0x88 ≤ b.toNat →
      ∃ t, exec (.rd b) s = .next t ∧ t = { s with status := t.status } ∧ t.status.getLsbD 0 = true ∧
        (s.status.extractLsb' 8 4 = 0#4 → t.status.extractLsb' 8 4 = 3#4))

/-- The commands a `TEXT` pseudo-instruction expands to commit the first `N_eff` bytes of the text, padded with
spaces, and change nothing but the staging buffer and the custom text (30_encoding.md R98,
48_host_commands.md R274, R276, R278). -/
def Obligations.TextCommandsCommitText : Prop :=
  ∀ (s : State) (t : Text), s.nEff ≤ 16 →
    ∃ u, execSeq (.tclr :: t.map Instr.tapp ++ [.tcommit]) s = .next u ∧
      u = { s with stage := u.stage, stageLen := u.stageLen, custom := u.custom } ∧
      u.stageLen.toNat = min t.length s.nEff ∧
      ∀ k : Fin 16, u.custom[k] = if k.val < s.nEff then t.getD k.val 0x20#8 else 0x20#8
end

