-- ==== Sys2Proof/Laws/Word.lean ====
section
/-! SUPPORT. Arrays, bits and frames: the small lemmas of the plain operations. -/

namespace Sys2Proof

@[simp] theorem tabulate_getElem {α : Type} (n : Nat) (f : Nat → α) (k : Nat) (h : k < n) :
    (tabulate n f)[k] = f k := by
  simp [tabulate]

@[simp] theorem tabulate_getElem? {α : Type} (n : Nat) (f : Nat → α) (k : Nat) (h : k < n) :
    (tabulate n f)[k]? = some (f k) := by
  rw [Vector.getElem?_eq_getElem h, tabulate_getElem]

namespace Machine

/-- The single bit `1 << b`. -/
theorem oneShift_getLsbD (n b j : Nat) : (1#n <<< b).getLsbD j = decide (j = b ∧ j < n) := by
  rw [← BitVec.twoPow_eq, BitVec.getLsbD_twoPow, ← Bool.decide_and]
  congr 1
  apply propext
  omega

/-- What `putBit` does to each bit. -/
theorem putBit_getLsbD {n : Nat} (r : BitVec n) (b : Nat) (v : Bool) (j : Nat) (hb : b < n) :
    (putBit r b v).getLsbD j = if j = b then v else r.getLsbD j := by
  unfold putBit
  by_cases hj : j < n
  · cases v
    · rw [if_neg (by simp), BitVec.getLsbD_and, BitVec.getLsbD_not, oneShift_getLsbD]
      by_cases h : j = b <;> simp [h, hj, hb]
    · rw [if_pos rfl, BitVec.getLsbD_or, oneShift_getLsbD]
      by_cases h : j = b <;> simp [h, hj, hb]
  · have h1 : j ≠ b := by omega
    cases v <;> simp [h1, BitVec.getLsbD_of_ge _ _ (Nat.le_of_not_lt hj)]

/-- Every bit of the word with `ILL_CAUSE` written. -/
theorem putIllCause_getLsbD (st : Word) (c : BitVec 4) (j : Nat) :
    (putIllCause st c).getLsbD j = if 8 ≤ j ∧ j < 12 then c.getLsbD (j - 8) else st.getLsbD j := by
  unfold putIllCause
  by_cases hj : j < 32
  · have key : ∀ i : Fin 32, (0x00000F00#32).getLsbD i.val = decide (8 ≤ i.val ∧ i.val < 12) := by decide
    have h1 : (0x00000F00#32).getLsbD j = decide (8 ≤ j ∧ j < 12) := key ⟨j, hj⟩
    simp only [BitVec.getLsbD_or, BitVec.getLsbD_and, BitVec.getLsbD_not, BitVec.getLsbD_shiftLeft,
      BitVec.getLsbD_setWidth, hj, h1]
    by_cases h : 8 ≤ j ∧ j < 12
    · have h2 : j - 8 < 32 := by omega
      have h3 : ¬ j < 8 := by omega
      simp [h, h2, h3]
    · by_cases h4 : j < 8
      · have : ¬ (8 ≤ j) := by omega
        simp [this, h4]
      · have h5 : 12 ≤ j := by omega
        have h6 : c.getLsbD (j - 8) = false := BitVec.getLsbD_of_ge _ _ (by omega)
        have h7 : ¬ j < 12 := by omega
        simp [h6, h7]
  · have h1 : ¬ (j < 12) := by omega
    rw [BitVec.getLsbD_of_ge _ _ (Nat.le_of_not_lt hj)]
    simp [h1, BitVec.getLsbD_of_ge _ _ (Nat.le_of_not_lt hj)]

/-- The bits of one frame byte (42_frame_packer.md R134). -/
theorem frameByte_getLsbD (f : Frame) (k j : Nat) (hj : j < 8) :
    (frameByte f k).getLsbD j = f.getLsbD (16 - 8 * k + j) := by
  simp [frameByte, hj]

end Machine

end Sys2Proof
end

