-- ==== Sys2Proof/Laws/Content.lean ====
section
/-! SUPPORT. The scan of `set_content` and the cells it stores (43_display_buffer.md). -/

namespace Sys2Proof.Machine

/-- No byte folds to a lowercase letter (41_encoder.md R111). -/
theorem fold_not_lower (c : Byte) : isLowerCode (fold c).toNat = false := by
  unfold fold isLowerCode
  split
  · rename_i h
    have h1 : (c - 0x20#8).toNat = c.toNat - 0x20 := by
      have : c.toNat < 256 := c.isLt
      simp only [BitVec.toNat_sub, BitVec.toNat_ofNat]
      omega
    rw [h1]
    simp
    omega
  · simp
    omega

/-- The value of the folded byte as a number (41_encoder.md R111). -/
theorem fold_toNat (c : Byte) :
    (fold c).toNat = if 0x61 ≤ c.toNat ∧ c.toNat ≤ 0x7A then c.toNat - 0x20 else c.toNat := by
  unfold fold
  have : c.toNat < 256 := c.isLt
  split
  · simp only [BitVec.toNat_sub, BitVec.toNat_ofNat]
    omega
  · rfl

/-- Only '.' folds to '.'. -/
theorem fold_eq_dot (c : Byte) : fold c = dotCode ↔ c = dotCode := by
  constructor
  · intro h
    have h1 := fold_toNat c
    rw [h] at h1
    apply BitVec.eq_of_toNat_eq
    simp only [dotCode, BitVec.toNat_ofNat] at h1 ⊢
    split at h1 <;> omega
  · rintro rfl
    decide

/-- The scan fills at most the room it is given (43_display_buffer.md R152). -/
theorem scanCells_length_le (lone : LoneDot) (n : Nat) (t : Text) : (scanCells lone n t).length ≤ n := by
  induction n, t using scanCells.induct lone with
  | case1 => simp [scanCells]
  | case2 => simp [scanCells]
  | case3 n c h => simp [scanCells, h]
  | case4 n c h ih => simp only [scanCells, if_neg h, List.length_cons]; omega
  | case5 n c d rest h ih => simpa only [scanCells, if_pos h] using ih
  | case6 n c rest h ih =>
    rw [scanCells, if_neg h, if_pos rfl, List.length_cons]
    omega
  | case7 n c d rest h hd ih =>
    rw [scanCells, if_neg h, if_neg hd, List.length_cons]
    omega

/-- Every cell of the scan holds a folded symbol (43_display_buffer.md R152). -/
theorem scanCells_folded (lone : LoneDot) (n : Nat) (t : Text) :
    ∀ cell ∈ scanCells lone n t, isLowerCode cell.sym.toNat = false := by
  induction n, t using scanCells.induct lone with
  | case1 => simp [scanCells]
  | case2 => simp [scanCells]
  | case3 n c h => simp [scanCells, h]
  | case4 n c h ih =>
    intro cell hc
    simp only [scanCells, if_neg h, List.mem_cons] at hc
    rcases hc with rfl | hc
    · exact fold_not_lower c
    · exact ih cell hc
  | case5 n c d rest h ih => simpa only [scanCells, if_pos h] using ih
  | case6 n c rest h ih =>
    intro cell hc
    rw [scanCells, if_neg h, if_pos rfl] at hc
    rcases List.mem_cons.mp hc with rfl | hc
    · exact fold_not_lower c
    · exact ih cell hc
  | case7 n c d rest h hd ih =>
    intro cell hc
    rw [scanCells, if_neg h, if_neg hd] at hc
    rcases List.mem_cons.mp hc with rfl | hc
    · exact fold_not_lower c
    · exact ih cell hc

/-- A live cell after `set_content` (43_display_buffer.md R150). -/
theorem contentCells_live (lone : LoneDot) (n : Nat) (t : Text) (old : Vector Cell 16) (k : Nat)
    (hk : k < 16) (h : k < n) :
    (contentCells lone n t old)[k] = (scanCells lone n t).getD (n - 1 - k) blankCell := by
  simp [contentCells, h]

/-- A cell beyond `N_eff` is untouched (43_display_buffer.md R154). -/
theorem contentCells_beyond (lone : LoneDot) (n : Nat) (t : Text) (old : Vector Cell 16) (k : Nat)
    (hk : k < 16) (h : n ≤ k) : (contentCells lone n t old)[k] = old[k] := by
  have : ¬ k < n := by omega
  simp [contentCells, this, hk]

/-- A cell of the stored buffer holds a folded symbol when the old buffer's cells do. -/
theorem contentCells_folded (lone : LoneDot) (n : Nat) (t : Text) (old : Vector Cell 16) (k : Nat)
    (hk : k < 16) (h : isLowerCode old[k].sym.toNat = false) :
    isLowerCode (contentCells lone n t old)[k].sym.toNat = false := by
  by_cases hn : k < n
  · rw [contentCells_live lone n t old k hk hn, List.getD_eq_getElem?_getD]
    by_cases hl : n - 1 - k < (scanCells lone n t).length
    · rw [List.getElem?_eq_getElem hl, Option.getD_some]
      exact scanCells_folded lone n t _ (List.getElem_mem hl)
    · rw [List.getElem?_eq_none (by omega), Option.getD_none]
      decide
  · rw [contentCells_beyond lone n t old k hk (by omega)]
    exact h

end Sys2Proof.Machine
end

