-- ==== Sys2Proof/Laws/Flags.lean ====
section
/-! SUPPORT. The fields of STATUS and FLAGS under each write (10_state.md R23, R24, 60_exceptions.md R302). -/

namespace Sys2Proof.Machine

/-- The cause field bit by bit. -/
theorem statusIllCause_getLsbD (st : Word) (j : Nat) :
    (statusIllCause st).getLsbD j = (decide (j < 4) && st.getLsbD (8 + j)) := by
  simp [statusIllCause]

/-- Writing one bit outside 11:8 keeps the cause. -/
theorem putBit_illCause (st : Word) (b : Nat) (v : Bool) (hb : b < 32) (h : b < 8 ∨ 12 ≤ b) :
    statusIllCause (putBit st b v) = statusIllCause st := by
  apply BitVec.eq_of_getLsbD_eq
  intro j hj
  rw [statusIllCause_getLsbD, statusIllCause_getLsbD, putBit_getLsbD _ _ _ _ hb, if_neg (by omega)]

@[simp] theorem putIll_ill (st : Word) (v : Bool) : statusIll (putIll st v) = v := by
  rw [statusIll, putIll, putBit_getLsbD _ _ _ _ (by decide)]
  rfl
@[simp] theorem putIll_illCause (st : Word) (v : Bool) : statusIllCause (putIll st v) = statusIllCause st :=
  putBit_illCause st 0 v (by decide) (by decide)
@[simp] theorem putTimeErr_timeErr (st : Word) (v : Bool) : statusTimeErr (putTimeErr st v) = v := by
  rw [statusTimeErr, putTimeErr, putBit_getLsbD _ _ _ _ (by decide)]
  rfl
@[simp] theorem putTimeErr_ill (st : Word) (v : Bool) : statusIll (putTimeErr st v) = statusIll st := by
  rw [statusIll, putTimeErr, putBit_getLsbD _ _ _ _ (by decide)]
  rfl
@[simp] theorem putTimeErr_vDisc (st : Word) (v : Bool) : statusVDisc (putTimeErr st v) = statusVDisc st := by
  rw [statusVDisc, putTimeErr, putBit_getLsbD _ _ _ _ (by decide)]
  rfl
@[simp] theorem putTimeErr_clamp (st : Word) (v : Bool) :
    statusCfgClamp (putTimeErr st v) = statusCfgClamp st := by
  rw [statusCfgClamp, putTimeErr, putBit_getLsbD _ _ _ _ (by decide)]
  rfl
@[simp] theorem putTimeErr_dup (st : Word) (v : Bool) : statusCfgDup (putTimeErr st v) = statusCfgDup st := by
  rw [statusCfgDup, putTimeErr, putBit_getLsbD _ _ _ _ (by decide)]
  rfl
@[simp] theorem putTimeErr_illCause (st : Word) (v : Bool) :
    statusIllCause (putTimeErr st v) = statusIllCause st :=
  putBit_illCause st 2 v (by decide) (by decide)
@[simp] theorem putVDisc_vDisc (st : Word) (v : Bool) : statusVDisc (putVDisc st v) = v := by
  rw [statusVDisc, putVDisc, putBit_getLsbD _ _ _ _ (by decide)]
  rfl
@[simp] theorem putVDisc_ill (st : Word) (v : Bool) : statusIll (putVDisc st v) = statusIll st := by
  rw [statusIll, putVDisc, putBit_getLsbD _ _ _ _ (by decide)]
  rfl
@[simp] theorem putVDisc_timeErr (st : Word) (v : Bool) :
    statusTimeErr (putVDisc st v) = statusTimeErr st := by
  rw [statusTimeErr, putVDisc, putBit_getLsbD _ _ _ _ (by decide)]
  rfl
@[simp] theorem putVDisc_clamp (st : Word) (v : Bool) :
    statusCfgClamp (putVDisc st v) = statusCfgClamp st := by
  rw [statusCfgClamp, putVDisc, putBit_getLsbD _ _ _ _ (by decide)]
  rfl
@[simp] theorem putVDisc_dup (st : Word) (v : Bool) : statusCfgDup (putVDisc st v) = statusCfgDup st := by
  rw [statusCfgDup, putVDisc, putBit_getLsbD _ _ _ _ (by decide)]
  rfl
@[simp] theorem putVDisc_illCause (st : Word) (v : Bool) :
    statusIllCause (putVDisc st v) = statusIllCause st :=
  putBit_illCause st 1 v (by decide) (by decide)

@[simp] theorem putIllCause_illCause (st : Word) (c : BitVec 4) : statusIllCause (putIllCause st c) = c := by
  apply BitVec.eq_of_getLsbD_eq
  intro j hj
  rw [statusIllCause_getLsbD, putIllCause_getLsbD, if_pos (by omega), Nat.add_sub_cancel_left]
  simp [hj]

/-- What an illegal command does to each bit outside the cause (60_exceptions.md R302). -/
theorem statusAfterIllegal_getLsbD (c : IllegalCause) (st : Word) (j : Nat) (hj : j < 8 ∨ 12 ≤ j) :
    (statusAfterIllegal c st).getLsbD j = if j = 0 then true else st.getLsbD j := by
  unfold statusAfterIllegal
  have h0 : (putIll st true).getLsbD j = if j = 0 then true else st.getLsbD j := by
    rw [putIll, putBit_getLsbD _ _ _ _ (by decide)]
  dsimp only
  split
  · rw [putIllCause_getLsbD, if_neg (by omega), h0]
  · exact h0

/-- What an illegal command does to the cause: the first one is kept (60_exceptions.md R302). -/
theorem statusAfterIllegal_illCause (c : IllegalCause) (st : Word) :
    statusIllCause (statusAfterIllegal c st) =
      if statusIllCause st = 0#4 then causeCode c else statusIllCause st := by
  unfold statusAfterIllegal
  dsimp only
  rw [putIll_illCause]
  split <;> simp

@[simp] theorem statusAfterIllegal_ill (c : IllegalCause) (st : Word) :
    statusIll (statusAfterIllegal c st) = true := by
  rw [statusIll, statusAfterIllegal_getLsbD _ _ _ (by decide)]
  rfl
@[simp] theorem statusAfterIllegal_vDisc (c : IllegalCause) (st : Word) :
    statusVDisc (statusAfterIllegal c st) = statusVDisc st := by
  rw [statusVDisc, statusAfterIllegal_getLsbD _ _ _ (by decide)]
  rfl
@[simp] theorem statusAfterIllegal_timeErr (c : IllegalCause) (st : Word) :
    statusTimeErr (statusAfterIllegal c st) = statusTimeErr st := by
  rw [statusTimeErr, statusAfterIllegal_getLsbD _ _ _ (by decide)]
  rfl
@[simp] theorem statusAfterIllegal_clamp (c : IllegalCause) (st : Word) :
    statusCfgClamp (statusAfterIllegal c st) = statusCfgClamp st := by
  rw [statusCfgClamp, statusAfterIllegal_getLsbD _ _ _ (by decide)]
  rfl
@[simp] theorem statusAfterIllegal_dup (c : IllegalCause) (st : Word) :
    statusCfgDup (statusAfterIllegal c st) = statusCfgDup st := by
  rw [statusCfgDup, statusAfterIllegal_getLsbD _ _ _ (by decide)]
  rfl

@[simp] theorem flagsOf_base (c e : BitVec 1) : baseIsCustom (flagsOf c e) = c.getLsbD 0 := by
  rw [baseIsCustom, flagsOf, BitVec.getLsbD_append]
  rfl
@[simp] theorem flagsOf_auto (c e : BitVec 1) : autoEnabled (flagsOf c e) = e.getLsbD 0 := by
  rw [autoEnabled, flagsOf, BitVec.getLsbD_append]
  rfl

end Sys2Proof.Machine
end

