-- ==== Sys2Proof/Laws/Packer.lean ====
section
/-! SUPPORT. What `pack` sets, bit by bit (42_frame_packer.md R131). -/

namespace Sys2Proof.Machine

/-- A pin line is the one bit of its index. -/
theorem pinBit_getLsbD (pin : BitVec 5) (p : Nat) :
    (pinBit pin).getLsbD p = decide (p = pin.toNat ∧ p < 24) :=
  oneShift_getLsbD 24 pin.toNat p

/-- The frame after the segment loop: what it held, or the line of a lit segment. -/
theorem foldl_addSegment_getLsbD (e : EffCfg) (m : Byte) (p : Nat) (is : List (Fin 8)) (f : Frame) :
    (is.foldl (addSegment e m) f).getLsbD p = true ↔
      f.getLsbD p = true ∨
        ∃ i ∈ is, i.val < e.sEff.toNat ∧ m.getLsbD i.val = true ∧ e.segPin[i].toNat = p ∧ p < 24 := by
  induction is generalizing f with
  | nil => simp
  | cons i is ih =>
    rw [List.foldl_cons, ih]
    have step : (addSegment e m f i).getLsbD p = true ↔ f.getLsbD p = true ∨
        (i.val < e.sEff.toNat ∧ m.getLsbD i.val = true ∧ e.segPin[i].toNat = p ∧ p < 24) := by
      unfold addSegment
      split
      · rename_i h
        rw [BitVec.getLsbD_or, pinBit_getLsbD, Bool.or_eq_true, decide_eq_true_eq]
        constructor
        · rintro (h1 | ⟨h1, h2⟩)
          · exact .inl h1
          · exact .inr ⟨h.1, h.2, h1.symm, h2⟩
        · rintro (h1 | ⟨_, _, h1, h2⟩)
          · exact .inl h1
          · exact .inr ⟨h1.symm, h2⟩
      · rename_i h
        constructor
        · exact .inl
        · rintro (h1 | ⟨h1, h2, _⟩)
          · exact h1
          · exact absurd ⟨h1, h2⟩ h
    rw [step]
    constructor
    · rintro ((h | h) | ⟨k, hk, h⟩)
      · exact .inl h
      · exact .inr ⟨i, by simp, h⟩
      · exact .inr ⟨k, by simp [hk], h⟩
    · rintro (h | ⟨k, hk, h⟩)
      · exact .inl (.inl h)
      · rcases List.mem_cons.mp hk with rfl | hk
        · exact .inl (.inr h)
        · exact .inr ⟨k, hk, h⟩

/-- Every bit of `pack d m`: the digit-select line of `d`, or the line of a lit segment
(42_frame_packer.md R131, R132, R133). -/
theorem pack_getLsbD (e : EffCfg) (d : BitVec 5) (m : Byte) (p : Nat) (hn : e.nEff.toNat ≤ 16) :
    (pack e d m).getLsbD p = true ↔ p < 24 ∧
      ((∃ k : Fin 16, k.val = d.toNat ∧ k.val < e.nEff.toNat ∧ e.digitPin[k].toNat = p) ∨
        (∃ i : Fin 8, i.val < e.sEff.toNat ∧ m.getLsbD i.val = true ∧ e.segPin[i].toNat = p)) := by
  unfold pack
  rw [foldl_addSegment_getLsbD]
  have hd : (digitBits e d).getLsbD p = true ↔
      p < 24 ∧ ∃ k : Fin 16, k.val = d.toNat ∧ k.val < e.nEff.toNat ∧ e.digitPin[k].toNat = p := by
    unfold digitBits
    split
    · rename_i h
      have hk : d.toNat < 16 := by omega
      rw [pinBit_getLsbD, decide_eq_true_eq, Vector.getElem?_eq_getElem hk, Option.getD_some]
      constructor
      · rintro ⟨h1, h2⟩
        exact ⟨h2, ⟨d.toNat, hk⟩, rfl, h, h1.symm⟩
      · rintro ⟨h2, ⟨k, hk'⟩, h1, _, h3⟩
        simp only at h1
        subst h1
        exact ⟨h3.symm, h2⟩
    · rename_i h
      constructor
      · simp
      · rintro ⟨_, k, h1, h2, _⟩
        omega
  rw [hd]
  constructor
  · rintro (⟨h1, h2⟩ | ⟨i, _, h1, h2, h3, h4⟩)
    · exact ⟨h1, .inl h2⟩
    · exact ⟨h4, .inr ⟨i, h1, h2, h3⟩⟩
  · rintro ⟨h1, h2 | ⟨i, h2, h3, h4⟩⟩
    · exact .inl ⟨h1, h2⟩
    · exact .inr ⟨i, List.mem_finRange i, h2, h3, h4, h1⟩

end Sys2Proof.Machine
end

