-- ==== Sys2Proof/Laws/State.lean ====
section
/-! SUPPORT. One lemma per field per named update of the state (Machine/Ops.lean), true by rfl, and what each update
writes to the field it changes. -/

namespace Sys2Proof.Machine

/-! ### RES -/

@[simp] theorem setRes_cfg (s : State) (v : Word) : (s.setRes v).cfg = s.cfg := rfl
@[simp] theorem setRes_rom (s : State) (v : Word) : (s.setRes v).rom = s.rom := rfl
@[simp] theorem setRes_status (s : State) (v : Word) : (s.setRes v).status = s.status := rfl
@[simp] theorem setRes_flags (s : State) (v : Word) : (s.setRes v).flags = s.flags := rfl
@[simp] theorem setRes_mode (s : State) (v : Word) : (s.setRes v).mode = s.mode := rfl
@[simp] theorem setRes_stage (s : State) (v : Word) : (s.setRes v).stage = s.stage := rfl
@[simp] theorem setRes_stageLen (s : State) (v : Word) : (s.setRes v).stageLen = s.stageLen := rfl
@[simp] theorem setRes_custom (s : State) (v : Word) : (s.setRes v).custom = s.custom := rfl
@[simp] theorem setRes_buf (s : State) (v : Word) : (s.setRes v).buf = s.buf := rfl
@[simp] theorem setRes_muxIdx (s : State) (v : Word) : (s.setRes v).muxIdx = s.muxIdx := rfl
@[simp] theorem setRes_muxLast (s : State) (v : Word) : (s.setRes v).muxLast = s.muxLast := rfl
@[simp] theorem setRes_frame (s : State) (v : Word) : (s.setRes v).frame = s.frame := rfl
@[simp] theorem setRes_txCount (s : State) (v : Word) : (s.setRes v).txCount = s.txCount := rfl
@[simp] theorem setRes_duty (s : State) (v : Word) : (s.setRes v).duty = s.duty := rfl
@[simp] theorem setRes_regLast (s : State) (v : Word) : (s.setRes v).regLast = s.regLast := rfl
@[simp] theorem setRes_phaseEnd (s : State) (v : Word) : (s.setRes v).phaseEnd = s.phaseEnd := rfl
@[simp] theorem setRes_nextFlash (s : State) (v : Word) : (s.setRes v).nextFlash = s.nextFlash := rfl
@[simp] theorem setRes_lastContent (s : State) (v : Word) : (s.setRes v).lastContent = s.lastContent := rfl
@[simp] theorem setRes_lastGlitch (s : State) (v : Word) : (s.setRes v).lastGlitch = s.lastGlitch := rfl
@[simp] theorem setRes_msgSel (s : State) (v : Word) : (s.setRes v).msgSel = s.msgSel := rfl
@[simp] theorem setRes_port (s : State) (v : Word) : (s.setRes v).port = s.port := rfl
@[simp] theorem setRes_passIn (s : State) (v : Word) : (s.setRes v).passIn = s.passIn := rfl
@[simp] theorem setRes_freeSamples (s : State) (v : Word) : (s.setRes v).freeSamples = s.freeSamples := rfl
@[simp] theorem setRes_tx (s : State) (v : Word) : (s.setRes v).tx = s.tx := rfl
@[simp] theorem setRes_res (s : State) (v : Word) : (s.setRes v).res = v := rfl

/-! ### FLAGS -/

@[simp] theorem setFlags_cfg (s : State) (c e : BitVec 1) : (s.setFlags c e).cfg = s.cfg := rfl
@[simp] theorem setFlags_rom (s : State) (c e : BitVec 1) : (s.setFlags c e).rom = s.rom := rfl
@[simp] theorem setFlags_res (s : State) (c e : BitVec 1) : (s.setFlags c e).res = s.res := rfl
@[simp] theorem setFlags_status (s : State) (c e : BitVec 1) : (s.setFlags c e).status = s.status := rfl
@[simp] theorem setFlags_mode (s : State) (c e : BitVec 1) : (s.setFlags c e).mode = s.mode := rfl
@[simp] theorem setFlags_stage (s : State) (c e : BitVec 1) : (s.setFlags c e).stage = s.stage := rfl
@[simp] theorem setFlags_stageLen (s : State) (c e : BitVec 1) : (s.setFlags c e).stageLen = s.stageLen := rfl
@[simp] theorem setFlags_custom (s : State) (c e : BitVec 1) : (s.setFlags c e).custom = s.custom := rfl
@[simp] theorem setFlags_buf (s : State) (c e : BitVec 1) : (s.setFlags c e).buf = s.buf := rfl
@[simp] theorem setFlags_muxIdx (s : State) (c e : BitVec 1) : (s.setFlags c e).muxIdx = s.muxIdx := rfl
@[simp] theorem setFlags_muxLast (s : State) (c e : BitVec 1) : (s.setFlags c e).muxLast = s.muxLast := rfl
@[simp] theorem setFlags_frame (s : State) (c e : BitVec 1) : (s.setFlags c e).frame = s.frame := rfl
@[simp] theorem setFlags_txCount (s : State) (c e : BitVec 1) : (s.setFlags c e).txCount = s.txCount := rfl
@[simp] theorem setFlags_duty (s : State) (c e : BitVec 1) : (s.setFlags c e).duty = s.duty := rfl
@[simp] theorem setFlags_regLast (s : State) (c e : BitVec 1) : (s.setFlags c e).regLast = s.regLast := rfl
@[simp] theorem setFlags_phaseEnd (s : State) (c e : BitVec 1) : (s.setFlags c e).phaseEnd = s.phaseEnd := rfl
@[simp] theorem setFlags_nextFlash (s : State) (c e : BitVec 1) : (s.setFlags c e).nextFlash = s.nextFlash := rfl
@[simp] theorem setFlags_lastContent (s : State) (c e : BitVec 1) : (s.setFlags c e).lastContent = s.lastContent := rfl
@[simp] theorem setFlags_lastGlitch (s : State) (c e : BitVec 1) : (s.setFlags c e).lastGlitch = s.lastGlitch := rfl
@[simp] theorem setFlags_msgSel (s : State) (c e : BitVec 1) : (s.setFlags c e).msgSel = s.msgSel := rfl
@[simp] theorem setFlags_port (s : State) (c e : BitVec 1) : (s.setFlags c e).port = s.port := rfl
@[simp] theorem setFlags_passIn (s : State) (c e : BitVec 1) : (s.setFlags c e).passIn = s.passIn := rfl
@[simp] theorem setFlags_freeSamples (s : State) (c e : BitVec 1) : (s.setFlags c e).freeSamples = s.freeSamples := rfl
@[simp] theorem setFlags_tx (s : State) (c e : BitVec 1) : (s.setFlags c e).tx = s.tx := rfl
@[simp] theorem setFlags_flags (s : State) (c e : BitVec 1) : (s.setFlags c e).flags = flagsOf c e := rfl

/-! ### STATUS -/

@[simp] theorem setTimeErr_cfg (s : State) (v : Bool) : (s.setTimeErr v).cfg = s.cfg := rfl
@[simp] theorem setTimeErr_rom (s : State) (v : Bool) : (s.setTimeErr v).rom = s.rom := rfl
@[simp] theorem setTimeErr_res (s : State) (v : Bool) : (s.setTimeErr v).res = s.res := rfl
@[simp] theorem setTimeErr_flags (s : State) (v : Bool) : (s.setTimeErr v).flags = s.flags := rfl
@[simp] theorem setTimeErr_mode (s : State) (v : Bool) : (s.setTimeErr v).mode = s.mode := rfl
@[simp] theorem setTimeErr_stage (s : State) (v : Bool) : (s.setTimeErr v).stage = s.stage := rfl
@[simp] theorem setTimeErr_stageLen (s : State) (v : Bool) : (s.setTimeErr v).stageLen = s.stageLen := rfl
@[simp] theorem setTimeErr_custom (s : State) (v : Bool) : (s.setTimeErr v).custom = s.custom := rfl
@[simp] theorem setTimeErr_buf (s : State) (v : Bool) : (s.setTimeErr v).buf = s.buf := rfl
@[simp] theorem setTimeErr_muxIdx (s : State) (v : Bool) : (s.setTimeErr v).muxIdx = s.muxIdx := rfl
@[simp] theorem setTimeErr_muxLast (s : State) (v : Bool) : (s.setTimeErr v).muxLast = s.muxLast := rfl
@[simp] theorem setTimeErr_frame (s : State) (v : Bool) : (s.setTimeErr v).frame = s.frame := rfl
@[simp] theorem setTimeErr_txCount (s : State) (v : Bool) : (s.setTimeErr v).txCount = s.txCount := rfl
@[simp] theorem setTimeErr_duty (s : State) (v : Bool) : (s.setTimeErr v).duty = s.duty := rfl
@[simp] theorem setTimeErr_regLast (s : State) (v : Bool) : (s.setTimeErr v).regLast = s.regLast := rfl
@[simp] theorem setTimeErr_phaseEnd (s : State) (v : Bool) : (s.setTimeErr v).phaseEnd = s.phaseEnd := rfl
@[simp] theorem setTimeErr_nextFlash (s : State) (v : Bool) : (s.setTimeErr v).nextFlash = s.nextFlash := rfl
@[simp] theorem setTimeErr_lastContent (s : State) (v : Bool) : (s.setTimeErr v).lastContent = s.lastContent := rfl
@[simp] theorem setTimeErr_lastGlitch (s : State) (v : Bool) : (s.setTimeErr v).lastGlitch = s.lastGlitch := rfl
@[simp] theorem setTimeErr_msgSel (s : State) (v : Bool) : (s.setTimeErr v).msgSel = s.msgSel := rfl
@[simp] theorem setTimeErr_port (s : State) (v : Bool) : (s.setTimeErr v).port = s.port := rfl
@[simp] theorem setTimeErr_passIn (s : State) (v : Bool) : (s.setTimeErr v).passIn = s.passIn := rfl
@[simp] theorem setTimeErr_freeSamples (s : State) (v : Bool) : (s.setTimeErr v).freeSamples = s.freeSamples := rfl
@[simp] theorem setTimeErr_tx (s : State) (v : Bool) : (s.setTimeErr v).tx = s.tx := rfl
@[simp] theorem setTimeErr_status (s : State) (v : Bool) : (s.setTimeErr v).status = putTimeErr s.status v := rfl

@[simp] theorem setVDisc_cfg (s : State) (v : Bool) : (s.setVDisc v).cfg = s.cfg := rfl
@[simp] theorem setVDisc_rom (s : State) (v : Bool) : (s.setVDisc v).rom = s.rom := rfl
@[simp] theorem setVDisc_res (s : State) (v : Bool) : (s.setVDisc v).res = s.res := rfl
@[simp] theorem setVDisc_flags (s : State) (v : Bool) : (s.setVDisc v).flags = s.flags := rfl
@[simp] theorem setVDisc_mode (s : State) (v : Bool) : (s.setVDisc v).mode = s.mode := rfl
@[simp] theorem setVDisc_stage (s : State) (v : Bool) : (s.setVDisc v).stage = s.stage := rfl
@[simp] theorem setVDisc_stageLen (s : State) (v : Bool) : (s.setVDisc v).stageLen = s.stageLen := rfl
@[simp] theorem setVDisc_custom (s : State) (v : Bool) : (s.setVDisc v).custom = s.custom := rfl
@[simp] theorem setVDisc_buf (s : State) (v : Bool) : (s.setVDisc v).buf = s.buf := rfl
@[simp] theorem setVDisc_muxIdx (s : State) (v : Bool) : (s.setVDisc v).muxIdx = s.muxIdx := rfl
@[simp] theorem setVDisc_muxLast (s : State) (v : Bool) : (s.setVDisc v).muxLast = s.muxLast := rfl
@[simp] theorem setVDisc_frame (s : State) (v : Bool) : (s.setVDisc v).frame = s.frame := rfl
@[simp] theorem setVDisc_txCount (s : State) (v : Bool) : (s.setVDisc v).txCount = s.txCount := rfl
@[simp] theorem setVDisc_duty (s : State) (v : Bool) : (s.setVDisc v).duty = s.duty := rfl
@[simp] theorem setVDisc_regLast (s : State) (v : Bool) : (s.setVDisc v).regLast = s.regLast := rfl
@[simp] theorem setVDisc_phaseEnd (s : State) (v : Bool) : (s.setVDisc v).phaseEnd = s.phaseEnd := rfl
@[simp] theorem setVDisc_nextFlash (s : State) (v : Bool) : (s.setVDisc v).nextFlash = s.nextFlash := rfl
@[simp] theorem setVDisc_lastContent (s : State) (v : Bool) : (s.setVDisc v).lastContent = s.lastContent := rfl
@[simp] theorem setVDisc_lastGlitch (s : State) (v : Bool) : (s.setVDisc v).lastGlitch = s.lastGlitch := rfl
@[simp] theorem setVDisc_msgSel (s : State) (v : Bool) : (s.setVDisc v).msgSel = s.msgSel := rfl
@[simp] theorem setVDisc_port (s : State) (v : Bool) : (s.setVDisc v).port = s.port := rfl
@[simp] theorem setVDisc_passIn (s : State) (v : Bool) : (s.setVDisc v).passIn = s.passIn := rfl
@[simp] theorem setVDisc_freeSamples (s : State) (v : Bool) : (s.setVDisc v).freeSamples = s.freeSamples := rfl
@[simp] theorem setVDisc_tx (s : State) (v : Bool) : (s.setVDisc v).tx = s.tx := rfl
@[simp] theorem setVDisc_status (s : State) (v : Bool) : (s.setVDisc v).status = putVDisc s.status v := rfl

@[simp] theorem raiseIllegal_cfg (s : State) (c : IllegalCause) : (raiseIllegal c s).cfg = s.cfg := rfl
@[simp] theorem raiseIllegal_rom (s : State) (c : IllegalCause) : (raiseIllegal c s).rom = s.rom := rfl
@[simp] theorem raiseIllegal_res (s : State) (c : IllegalCause) : (raiseIllegal c s).res = s.res := rfl
@[simp] theorem raiseIllegal_flags (s : State) (c : IllegalCause) : (raiseIllegal c s).flags = s.flags := rfl
@[simp] theorem raiseIllegal_mode (s : State) (c : IllegalCause) : (raiseIllegal c s).mode = s.mode := rfl
@[simp] theorem raiseIllegal_stage (s : State) (c : IllegalCause) : (raiseIllegal c s).stage = s.stage := rfl
@[simp] theorem raiseIllegal_stageLen (s : State) (c : IllegalCause) : (raiseIllegal c s).stageLen = s.stageLen := rfl
@[simp] theorem raiseIllegal_custom (s : State) (c : IllegalCause) : (raiseIllegal c s).custom = s.custom := rfl
@[simp] theorem raiseIllegal_buf (s : State) (c : IllegalCause) : (raiseIllegal c s).buf = s.buf := rfl
@[simp] theorem raiseIllegal_muxIdx (s : State) (c : IllegalCause) : (raiseIllegal c s).muxIdx = s.muxIdx := rfl
@[simp] theorem raiseIllegal_muxLast (s : State) (c : IllegalCause) : (raiseIllegal c s).muxLast = s.muxLast := rfl
@[simp] theorem raiseIllegal_frame (s : State) (c : IllegalCause) : (raiseIllegal c s).frame = s.frame := rfl
@[simp] theorem raiseIllegal_txCount (s : State) (c : IllegalCause) : (raiseIllegal c s).txCount = s.txCount := rfl
@[simp] theorem raiseIllegal_duty (s : State) (c : IllegalCause) : (raiseIllegal c s).duty = s.duty := rfl
@[simp] theorem raiseIllegal_regLast (s : State) (c : IllegalCause) : (raiseIllegal c s).regLast = s.regLast := rfl
@[simp] theorem raiseIllegal_phaseEnd (s : State) (c : IllegalCause) : (raiseIllegal c s).phaseEnd = s.phaseEnd := rfl
@[simp] theorem raiseIllegal_nextFlash (s : State) (c : IllegalCause) : (raiseIllegal c s).nextFlash = s.nextFlash := rfl
@[simp] theorem raiseIllegal_lastContent (s : State) (c : IllegalCause) : (raiseIllegal c s).lastContent = s.lastContent := rfl
@[simp] theorem raiseIllegal_lastGlitch (s : State) (c : IllegalCause) : (raiseIllegal c s).lastGlitch = s.lastGlitch := rfl
@[simp] theorem raiseIllegal_msgSel (s : State) (c : IllegalCause) : (raiseIllegal c s).msgSel = s.msgSel := rfl
@[simp] theorem raiseIllegal_port (s : State) (c : IllegalCause) : (raiseIllegal c s).port = s.port := rfl
@[simp] theorem raiseIllegal_passIn (s : State) (c : IllegalCause) : (raiseIllegal c s).passIn = s.passIn := rfl
@[simp] theorem raiseIllegal_freeSamples (s : State) (c : IllegalCause) : (raiseIllegal c s).freeSamples = s.freeSamples := rfl
@[simp] theorem raiseIllegal_tx (s : State) (c : IllegalCause) : (raiseIllegal c s).tx = s.tx := rfl
@[simp] theorem raiseIllegal_status (s : State) (c : IllegalCause) :
    (raiseIllegal c s).status = statusAfterIllegal c s.status := rfl

/-! ### The input ports -/

@[simp] theorem dropEvent_cfg (s : State) : (s.dropEvent).cfg = s.cfg := rfl
@[simp] theorem dropEvent_rom (s : State) : (s.dropEvent).rom = s.rom := rfl
@[simp] theorem dropEvent_res (s : State) : (s.dropEvent).res = s.res := rfl
@[simp] theorem dropEvent_status (s : State) : (s.dropEvent).status = s.status := rfl
@[simp] theorem dropEvent_flags (s : State) : (s.dropEvent).flags = s.flags := rfl
@[simp] theorem dropEvent_mode (s : State) : (s.dropEvent).mode = s.mode := rfl
@[simp] theorem dropEvent_stage (s : State) : (s.dropEvent).stage = s.stage := rfl
@[simp] theorem dropEvent_stageLen (s : State) : (s.dropEvent).stageLen = s.stageLen := rfl
@[simp] theorem dropEvent_custom (s : State) : (s.dropEvent).custom = s.custom := rfl
@[simp] theorem dropEvent_buf (s : State) : (s.dropEvent).buf = s.buf := rfl
@[simp] theorem dropEvent_muxIdx (s : State) : (s.dropEvent).muxIdx = s.muxIdx := rfl
@[simp] theorem dropEvent_muxLast (s : State) : (s.dropEvent).muxLast = s.muxLast := rfl
@[simp] theorem dropEvent_frame (s : State) : (s.dropEvent).frame = s.frame := rfl
@[simp] theorem dropEvent_txCount (s : State) : (s.dropEvent).txCount = s.txCount := rfl
@[simp] theorem dropEvent_duty (s : State) : (s.dropEvent).duty = s.duty := rfl
@[simp] theorem dropEvent_regLast (s : State) : (s.dropEvent).regLast = s.regLast := rfl
@[simp] theorem dropEvent_phaseEnd (s : State) : (s.dropEvent).phaseEnd = s.phaseEnd := rfl
@[simp] theorem dropEvent_nextFlash (s : State) : (s.dropEvent).nextFlash = s.nextFlash := rfl
@[simp] theorem dropEvent_lastContent (s : State) : (s.dropEvent).lastContent = s.lastContent := rfl
@[simp] theorem dropEvent_lastGlitch (s : State) : (s.dropEvent).lastGlitch = s.lastGlitch := rfl
@[simp] theorem dropEvent_msgSel (s : State) : (s.dropEvent).msgSel = s.msgSel := rfl
@[simp] theorem dropEvent_passIn (s : State) : (s.dropEvent).passIn = s.passIn := rfl
@[simp] theorem dropEvent_freeSamples (s : State) : (s.dropEvent).freeSamples = s.freeSamples := rfl
@[simp] theorem dropEvent_tx (s : State) : (s.dropEvent).tx = s.tx := rfl
@[simp] theorem dropEvent_port (s : State) : s.dropEvent.port = s.port.tail := rfl

@[simp] theorem dropSample_cfg (s : State) : (s.dropSample).cfg = s.cfg := by
  unfold State.dropSample; split <;> rfl
@[simp] theorem dropSample_rom (s : State) : (s.dropSample).rom = s.rom := by
  unfold State.dropSample; split <;> rfl
@[simp] theorem dropSample_res (s : State) : (s.dropSample).res = s.res := by
  unfold State.dropSample; split <;> rfl
@[simp] theorem dropSample_status (s : State) : (s.dropSample).status = s.status := by
  unfold State.dropSample; split <;> rfl
@[simp] theorem dropSample_flags (s : State) : (s.dropSample).flags = s.flags := by
  unfold State.dropSample; split <;> rfl
@[simp] theorem dropSample_mode (s : State) : (s.dropSample).mode = s.mode := by
  unfold State.dropSample; split <;> rfl
@[simp] theorem dropSample_stage (s : State) : (s.dropSample).stage = s.stage := by
  unfold State.dropSample; split <;> rfl
@[simp] theorem dropSample_stageLen (s : State) : (s.dropSample).stageLen = s.stageLen := by
  unfold State.dropSample; split <;> rfl
@[simp] theorem dropSample_custom (s : State) : (s.dropSample).custom = s.custom := by
  unfold State.dropSample; split <;> rfl
@[simp] theorem dropSample_buf (s : State) : (s.dropSample).buf = s.buf := by
  unfold State.dropSample; split <;> rfl
@[simp] theorem dropSample_muxIdx (s : State) : (s.dropSample).muxIdx = s.muxIdx := by
  unfold State.dropSample; split <;> rfl
@[simp] theorem dropSample_muxLast (s : State) : (s.dropSample).muxLast = s.muxLast := by
  unfold State.dropSample; split <;> rfl
@[simp] theorem dropSample_frame (s : State) : (s.dropSample).frame = s.frame := by
  unfold State.dropSample; split <;> rfl
@[simp] theorem dropSample_txCount (s : State) : (s.dropSample).txCount = s.txCount := by
  unfold State.dropSample; split <;> rfl
@[simp] theorem dropSample_duty (s : State) : (s.dropSample).duty = s.duty := by
  unfold State.dropSample; split <;> rfl
@[simp] theorem dropSample_regLast (s : State) : (s.dropSample).regLast = s.regLast := by
  unfold State.dropSample; split <;> rfl
@[simp] theorem dropSample_phaseEnd (s : State) : (s.dropSample).phaseEnd = s.phaseEnd := by
  unfold State.dropSample; split <;> rfl
@[simp] theorem dropSample_nextFlash (s : State) : (s.dropSample).nextFlash = s.nextFlash := by
  unfold State.dropSample; split <;> rfl
@[simp] theorem dropSample_lastContent (s : State) : (s.dropSample).lastContent = s.lastContent := by
  unfold State.dropSample; split <;> rfl
@[simp] theorem dropSample_lastGlitch (s : State) : (s.dropSample).lastGlitch = s.lastGlitch := by
  unfold State.dropSample; split <;> rfl
@[simp] theorem dropSample_msgSel (s : State) : (s.dropSample).msgSel = s.msgSel := by
  unfold State.dropSample; split <;> rfl
@[simp] theorem dropSample_port (s : State) : (s.dropSample).port = s.port := by
  unfold State.dropSample; split <;> rfl
@[simp] theorem dropSample_tx (s : State) : (s.dropSample).tx = s.tx := by
  unfold State.dropSample; split <;> rfl
@[simp] theorem dropSample_passIn (s : State) : s.dropSample.passIn = s.passIn.tail := by
  unfold State.dropSample; split <;> simp_all

/-! ### The TX port -/

@[simp] theorem emitTx_cfg (s : State) (f : Frame) : (s.emitTx f).cfg = s.cfg := rfl
@[simp] theorem emitTx_rom (s : State) (f : Frame) : (s.emitTx f).rom = s.rom := rfl
@[simp] theorem emitTx_res (s : State) (f : Frame) : (s.emitTx f).res = s.res := rfl
@[simp] theorem emitTx_status (s : State) (f : Frame) : (s.emitTx f).status = s.status := rfl
@[simp] theorem emitTx_flags (s : State) (f : Frame) : (s.emitTx f).flags = s.flags := rfl
@[simp] theorem emitTx_mode (s : State) (f : Frame) : (s.emitTx f).mode = s.mode := rfl
@[simp] theorem emitTx_stage (s : State) (f : Frame) : (s.emitTx f).stage = s.stage := rfl
@[simp] theorem emitTx_stageLen (s : State) (f : Frame) : (s.emitTx f).stageLen = s.stageLen := rfl
@[simp] theorem emitTx_custom (s : State) (f : Frame) : (s.emitTx f).custom = s.custom := rfl
@[simp] theorem emitTx_buf (s : State) (f : Frame) : (s.emitTx f).buf = s.buf := rfl
@[simp] theorem emitTx_muxIdx (s : State) (f : Frame) : (s.emitTx f).muxIdx = s.muxIdx := rfl
@[simp] theorem emitTx_muxLast (s : State) (f : Frame) : (s.emitTx f).muxLast = s.muxLast := rfl
@[simp] theorem emitTx_duty (s : State) (f : Frame) : (s.emitTx f).duty = s.duty := rfl
@[simp] theorem emitTx_regLast (s : State) (f : Frame) : (s.emitTx f).regLast = s.regLast := rfl
@[simp] theorem emitTx_phaseEnd (s : State) (f : Frame) : (s.emitTx f).phaseEnd = s.phaseEnd := rfl
@[simp] theorem emitTx_nextFlash (s : State) (f : Frame) : (s.emitTx f).nextFlash = s.nextFlash := rfl
@[simp] theorem emitTx_lastContent (s : State) (f : Frame) : (s.emitTx f).lastContent = s.lastContent := rfl
@[simp] theorem emitTx_lastGlitch (s : State) (f : Frame) : (s.emitTx f).lastGlitch = s.lastGlitch := rfl
@[simp] theorem emitTx_msgSel (s : State) (f : Frame) : (s.emitTx f).msgSel = s.msgSel := rfl
@[simp] theorem emitTx_port (s : State) (f : Frame) : (s.emitTx f).port = s.port := rfl
@[simp] theorem emitTx_passIn (s : State) (f : Frame) : (s.emitTx f).passIn = s.passIn := rfl
@[simp] theorem emitTx_freeSamples (s : State) (f : Frame) : (s.emitTx f).freeSamples = s.freeSamples := rfl
@[simp] theorem emitTx_frame (s : State) (f : Frame) : (s.emitTx f).frame = f := rfl
@[simp] theorem emitTx_tx (s : State) (f : Frame) : (s.emitTx f).tx = s.tx ++ [txEvent f] := rfl
@[simp] theorem emitTx_txCount (s : State) (f : Frame) : (s.emitTx f).txCount = s.txCount + 1#32 := rfl

/-! ### Reset -/

@[simp] theorem takeReset_port (s : State) (r : ResetRecord) : (s.takeReset r).port = s.port := rfl
@[simp] theorem takeReset_passIn (s : State) (r : ResetRecord) : (s.takeReset r).passIn = s.passIn := rfl
@[simp] theorem takeReset_freeSamples (s : State) (r : ResetRecord) :
    (s.takeReset r).freeSamples = s.freeSamples := rfl
@[simp] theorem takeReset_cfg (s : State) (r : ResetRecord) :
    (s.takeReset r).cfg = (State.resetWith r).cfg := rfl
@[simp] theorem takeReset_rom (s : State) (r : ResetRecord) :
    (s.takeReset r).rom = (State.resetWith r).rom := rfl
@[simp] theorem takeReset_res (s : State) (r : ResetRecord) :
    (s.takeReset r).res = (State.resetWith r).res := rfl
@[simp] theorem takeReset_status (s : State) (r : ResetRecord) :
    (s.takeReset r).status = (State.resetWith r).status := rfl
@[simp] theorem takeReset_flags (s : State) (r : ResetRecord) :
    (s.takeReset r).flags = (State.resetWith r).flags := rfl
@[simp] theorem takeReset_mode (s : State) (r : ResetRecord) :
    (s.takeReset r).mode = (State.resetWith r).mode := rfl
@[simp] theorem takeReset_stage (s : State) (r : ResetRecord) :
    (s.takeReset r).stage = (State.resetWith r).stage := rfl
@[simp] theorem takeReset_stageLen (s : State) (r : ResetRecord) :
    (s.takeReset r).stageLen = (State.resetWith r).stageLen := rfl
@[simp] theorem takeReset_custom (s : State) (r : ResetRecord) :
    (s.takeReset r).custom = (State.resetWith r).custom := rfl
@[simp] theorem takeReset_buf (s : State) (r : ResetRecord) :
    (s.takeReset r).buf = (State.resetWith r).buf := rfl
@[simp] theorem takeReset_muxIdx (s : State) (r : ResetRecord) :
    (s.takeReset r).muxIdx = (State.resetWith r).muxIdx := rfl
@[simp] theorem takeReset_muxLast (s : State) (r : ResetRecord) :
    (s.takeReset r).muxLast = (State.resetWith r).muxLast := rfl
@[simp] theorem takeReset_frame (s : State) (r : ResetRecord) :
    (s.takeReset r).frame = (State.resetWith r).frame := rfl
@[simp] theorem takeReset_txCount (s : State) (r : ResetRecord) :
    (s.takeReset r).txCount = (State.resetWith r).txCount := rfl
@[simp] theorem takeReset_duty (s : State) (r : ResetRecord) :
    (s.takeReset r).duty = (State.resetWith r).duty := rfl
@[simp] theorem takeReset_regLast (s : State) (r : ResetRecord) :
    (s.takeReset r).regLast = (State.resetWith r).regLast := rfl
@[simp] theorem takeReset_phaseEnd (s : State) (r : ResetRecord) :
    (s.takeReset r).phaseEnd = (State.resetWith r).phaseEnd := rfl
@[simp] theorem takeReset_nextFlash (s : State) (r : ResetRecord) :
    (s.takeReset r).nextFlash = (State.resetWith r).nextFlash := rfl
@[simp] theorem takeReset_lastContent (s : State) (r : ResetRecord) :
    (s.takeReset r).lastContent = (State.resetWith r).lastContent := rfl
@[simp] theorem takeReset_lastGlitch (s : State) (r : ResetRecord) :
    (s.takeReset r).lastGlitch = (State.resetWith r).lastGlitch := rfl
@[simp] theorem takeReset_msgSel (s : State) (r : ResetRecord) :
    (s.takeReset r).msgSel = (State.resetWith r).msgSel := rfl
@[simp] theorem takeReset_tx (s : State) (r : ResetRecord) :
    (s.takeReset r).tx = (State.resetWith r).tx := rfl

end Sys2Proof.Machine
end

