-- ==== Sys2Proof/Laws/Stages.lean ====
section
/-! SUPPORT. What each stage of a pass leaves unchanged, field by field: the stages write only their own registers
(10_state.md R42), so that no later proof unfolds a stage to carry a field through it. -/

namespace Sys2Proof.Machine

/-! ### The actions of the mode stage -/

@[simp] theorem setContent_cfg (s : State) (t : Text) : (setContent t s).cfg = s.cfg := rfl
@[simp] theorem setContent_rom (s : State) (t : Text) : (setContent t s).rom = s.rom := rfl
@[simp] theorem setContent_res (s : State) (t : Text) : (setContent t s).res = s.res := rfl
@[simp] theorem setContent_status (s : State) (t : Text) : (setContent t s).status = s.status := rfl
@[simp] theorem setContent_flags (s : State) (t : Text) : (setContent t s).flags = s.flags := rfl
@[simp] theorem setContent_mode (s : State) (t : Text) : (setContent t s).mode = s.mode := rfl
@[simp] theorem setContent_stage (s : State) (t : Text) : (setContent t s).stage = s.stage := rfl
@[simp] theorem setContent_stageLen (s : State) (t : Text) : (setContent t s).stageLen = s.stageLen := rfl
@[simp] theorem setContent_custom (s : State) (t : Text) : (setContent t s).custom = s.custom := rfl
@[simp] theorem setContent_muxIdx (s : State) (t : Text) : (setContent t s).muxIdx = s.muxIdx := rfl
@[simp] theorem setContent_muxLast (s : State) (t : Text) : (setContent t s).muxLast = s.muxLast := rfl
@[simp] theorem setContent_frame (s : State) (t : Text) : (setContent t s).frame = s.frame := rfl
@[simp] theorem setContent_txCount (s : State) (t : Text) : (setContent t s).txCount = s.txCount := rfl
@[simp] theorem setContent_duty (s : State) (t : Text) : (setContent t s).duty = s.duty := rfl
@[simp] theorem setContent_regLast (s : State) (t : Text) : (setContent t s).regLast = s.regLast := rfl
@[simp] theorem setContent_phaseEnd (s : State) (t : Text) : (setContent t s).phaseEnd = s.phaseEnd := rfl
@[simp] theorem setContent_nextFlash (s : State) (t : Text) : (setContent t s).nextFlash = s.nextFlash := rfl
@[simp] theorem setContent_lastContent (s : State) (t : Text) : (setContent t s).lastContent = s.lastContent := rfl
@[simp] theorem setContent_lastGlitch (s : State) (t : Text) : (setContent t s).lastGlitch = s.lastGlitch := rfl
@[simp] theorem setContent_msgSel (s : State) (t : Text) : (setContent t s).msgSel = s.msgSel := rfl
@[simp] theorem setContent_port (s : State) (t : Text) : (setContent t s).port = s.port := rfl
@[simp] theorem setContent_passIn (s : State) (t : Text) : (setContent t s).passIn = s.passIn := rfl
@[simp] theorem setContent_freeSamples (s : State) (t : Text) : (setContent t s).freeSamples = s.freeSamples := rfl
@[simp] theorem setContent_tx (s : State) (t : Text) : (setContent t s).tx = s.tx := rfl
@[simp] theorem setContent_buf (s : State) (t : Text) :
    (setContent t s).buf = contentCells s.cfg.loneDot s.nEff t s.buf := rfl

@[simp] theorem writeGlitch_cfg (s : State) (p : PassIn) : (writeGlitch p s).cfg = s.cfg := rfl
@[simp] theorem writeGlitch_rom (s : State) (p : PassIn) : (writeGlitch p s).rom = s.rom := rfl
@[simp] theorem writeGlitch_res (s : State) (p : PassIn) : (writeGlitch p s).res = s.res := rfl
@[simp] theorem writeGlitch_status (s : State) (p : PassIn) : (writeGlitch p s).status = s.status := rfl
@[simp] theorem writeGlitch_flags (s : State) (p : PassIn) : (writeGlitch p s).flags = s.flags := rfl
@[simp] theorem writeGlitch_mode (s : State) (p : PassIn) : (writeGlitch p s).mode = s.mode := rfl
@[simp] theorem writeGlitch_stage (s : State) (p : PassIn) : (writeGlitch p s).stage = s.stage := rfl
@[simp] theorem writeGlitch_stageLen (s : State) (p : PassIn) : (writeGlitch p s).stageLen = s.stageLen := rfl
@[simp] theorem writeGlitch_custom (s : State) (p : PassIn) : (writeGlitch p s).custom = s.custom := rfl
@[simp] theorem writeGlitch_muxIdx (s : State) (p : PassIn) : (writeGlitch p s).muxIdx = s.muxIdx := rfl
@[simp] theorem writeGlitch_muxLast (s : State) (p : PassIn) : (writeGlitch p s).muxLast = s.muxLast := rfl
@[simp] theorem writeGlitch_frame (s : State) (p : PassIn) : (writeGlitch p s).frame = s.frame := rfl
@[simp] theorem writeGlitch_txCount (s : State) (p : PassIn) : (writeGlitch p s).txCount = s.txCount := rfl
@[simp] theorem writeGlitch_duty (s : State) (p : PassIn) : (writeGlitch p s).duty = s.duty := rfl
@[simp] theorem writeGlitch_regLast (s : State) (p : PassIn) : (writeGlitch p s).regLast = s.regLast := rfl
@[simp] theorem writeGlitch_phaseEnd (s : State) (p : PassIn) : (writeGlitch p s).phaseEnd = s.phaseEnd := rfl
@[simp] theorem writeGlitch_nextFlash (s : State) (p : PassIn) : (writeGlitch p s).nextFlash = s.nextFlash := rfl
@[simp] theorem writeGlitch_lastContent (s : State) (p : PassIn) : (writeGlitch p s).lastContent = s.lastContent := rfl
@[simp] theorem writeGlitch_msgSel (s : State) (p : PassIn) : (writeGlitch p s).msgSel = s.msgSel := rfl
@[simp] theorem writeGlitch_port (s : State) (p : PassIn) : (writeGlitch p s).port = s.port := rfl
@[simp] theorem writeGlitch_passIn (s : State) (p : PassIn) : (writeGlitch p s).passIn = s.passIn := rfl
@[simp] theorem writeGlitch_freeSamples (s : State) (p : PassIn) : (writeGlitch p s).freeSamples = s.freeSamples := rfl
@[simp] theorem writeGlitch_tx (s : State) (p : PassIn) : (writeGlitch p s).tx = s.tx := rfl
@[simp] theorem writeGlitch_lastGlitch (s : State) (p : PassIn) : (writeGlitch p s).lastGlitch = p.now := rfl
@[simp] theorem writeGlitch_buf (s : State) (p : PassIn) :
    (writeGlitch p s).buf = contentCells s.cfg.loneDot s.nEff (glitchText p s) s.buf := rfl

@[simp] theorem writeBase_cfg (s : State) (p : PassIn) : (writeBase p s).cfg = s.cfg := by
  unfold writeBase; dsimp only; split <;> rfl
@[simp] theorem writeBase_rom (s : State) (p : PassIn) : (writeBase p s).rom = s.rom := by
  unfold writeBase; dsimp only; split <;> rfl
@[simp] theorem writeBase_res (s : State) (p : PassIn) : (writeBase p s).res = s.res := by
  unfold writeBase; dsimp only; split <;> rfl
@[simp] theorem writeBase_flags (s : State) (p : PassIn) : (writeBase p s).flags = s.flags := by
  unfold writeBase; dsimp only; split <;> rfl
@[simp] theorem writeBase_mode (s : State) (p : PassIn) : (writeBase p s).mode = s.mode := by
  unfold writeBase; dsimp only; split <;> rfl
@[simp] theorem writeBase_stage (s : State) (p : PassIn) : (writeBase p s).stage = s.stage := by
  unfold writeBase; dsimp only; split <;> rfl
@[simp] theorem writeBase_stageLen (s : State) (p : PassIn) : (writeBase p s).stageLen = s.stageLen := by
  unfold writeBase; dsimp only; split <;> rfl
@[simp] theorem writeBase_custom (s : State) (p : PassIn) : (writeBase p s).custom = s.custom := by
  unfold writeBase; dsimp only; split <;> rfl
@[simp] theorem writeBase_muxIdx (s : State) (p : PassIn) : (writeBase p s).muxIdx = s.muxIdx := by
  unfold writeBase; dsimp only; split <;> rfl
@[simp] theorem writeBase_muxLast (s : State) (p : PassIn) : (writeBase p s).muxLast = s.muxLast := by
  unfold writeBase; dsimp only; split <;> rfl
@[simp] theorem writeBase_frame (s : State) (p : PassIn) : (writeBase p s).frame = s.frame := by
  unfold writeBase; dsimp only; split <;> rfl
@[simp] theorem writeBase_txCount (s : State) (p : PassIn) : (writeBase p s).txCount = s.txCount := by
  unfold writeBase; dsimp only; split <;> rfl
@[simp] theorem writeBase_duty (s : State) (p : PassIn) : (writeBase p s).duty = s.duty := by
  unfold writeBase; dsimp only; split <;> rfl
@[simp] theorem writeBase_regLast (s : State) (p : PassIn) : (writeBase p s).regLast = s.regLast := by
  unfold writeBase; dsimp only; split <;> rfl
@[simp] theorem writeBase_phaseEnd (s : State) (p : PassIn) : (writeBase p s).phaseEnd = s.phaseEnd := by
  unfold writeBase; dsimp only; split <;> rfl
@[simp] theorem writeBase_nextFlash (s : State) (p : PassIn) : (writeBase p s).nextFlash = s.nextFlash := by
  unfold writeBase; dsimp only; split <;> rfl
@[simp] theorem writeBase_lastGlitch (s : State) (p : PassIn) : (writeBase p s).lastGlitch = s.lastGlitch := by
  unfold writeBase; dsimp only; split <;> rfl
@[simp] theorem writeBase_msgSel (s : State) (p : PassIn) : (writeBase p s).msgSel = s.msgSel := by
  unfold writeBase; dsimp only; split <;> rfl
@[simp] theorem writeBase_port (s : State) (p : PassIn) : (writeBase p s).port = s.port := by
  unfold writeBase; dsimp only; split <;> rfl
@[simp] theorem writeBase_passIn (s : State) (p : PassIn) : (writeBase p s).passIn = s.passIn := by
  unfold writeBase; dsimp only; split <;> rfl
@[simp] theorem writeBase_freeSamples (s : State) (p : PassIn) : (writeBase p s).freeSamples = s.freeSamples := by
  unfold writeBase; dsimp only; split <;> rfl
@[simp] theorem writeBase_tx (s : State) (p : PassIn) : (writeBase p s).tx = s.tx := by
  unfold writeBase; dsimp only; split <;> rfl
@[simp] theorem writeBase_lastContent (s : State) (p : PassIn) : (writeBase p s).lastContent = p.now := rfl
@[simp] theorem writeBase_status (s : State) (p : PassIn) :
    (writeBase p s).status = if baseIsCustom s.flags then s.status else putTimeErr s.status (!p.wcValid) := by
  unfold writeBase; dsimp only; split <;> rfl
@[simp] theorem writeBase_buf (s : State) (p : PassIn) :
    (writeBase p s).buf = contentCells s.cfg.loneDot s.nEff (baseText p s) s.buf := by
  unfold writeBase; dsimp only; split <;> rfl

@[simp] theorem enterFlash_cfg (s : State) (p : PassIn) : (enterFlash p s).cfg = s.cfg := by
  unfold enterFlash; dsimp only; split <;> rfl
@[simp] theorem enterFlash_rom (s : State) (p : PassIn) : (enterFlash p s).rom = s.rom := by
  unfold enterFlash; dsimp only; split <;> rfl
@[simp] theorem enterFlash_res (s : State) (p : PassIn) : (enterFlash p s).res = s.res := by
  unfold enterFlash; dsimp only; split <;> rfl
@[simp] theorem enterFlash_status (s : State) (p : PassIn) : (enterFlash p s).status = s.status := by
  unfold enterFlash; dsimp only; split <;> rfl
@[simp] theorem enterFlash_flags (s : State) (p : PassIn) : (enterFlash p s).flags = s.flags := by
  unfold enterFlash; dsimp only; split <;> rfl
@[simp] theorem enterFlash_mode (s : State) (p : PassIn) : (enterFlash p s).mode = s.mode := by
  unfold enterFlash; dsimp only; split <;> rfl
@[simp] theorem enterFlash_stage (s : State) (p : PassIn) : (enterFlash p s).stage = s.stage := by
  unfold enterFlash; dsimp only; split <;> rfl
@[simp] theorem enterFlash_stageLen (s : State) (p : PassIn) : (enterFlash p s).stageLen = s.stageLen := by
  unfold enterFlash; dsimp only; split <;> rfl
@[simp] theorem enterFlash_custom (s : State) (p : PassIn) : (enterFlash p s).custom = s.custom := by
  unfold enterFlash; dsimp only; split <;> rfl
@[simp] theorem enterFlash_muxIdx (s : State) (p : PassIn) : (enterFlash p s).muxIdx = s.muxIdx := by
  unfold enterFlash; dsimp only; split <;> rfl
@[simp] theorem enterFlash_muxLast (s : State) (p : PassIn) : (enterFlash p s).muxLast = s.muxLast := by
  unfold enterFlash; dsimp only; split <;> rfl
@[simp] theorem enterFlash_frame (s : State) (p : PassIn) : (enterFlash p s).frame = s.frame := by
  unfold enterFlash; dsimp only; split <;> rfl
@[simp] theorem enterFlash_txCount (s : State) (p : PassIn) : (enterFlash p s).txCount = s.txCount := by
  unfold enterFlash; dsimp only; split <;> rfl
@[simp] theorem enterFlash_duty (s : State) (p : PassIn) : (enterFlash p s).duty = s.duty := by
  unfold enterFlash; dsimp only; split <;> rfl
@[simp] theorem enterFlash_regLast (s : State) (p : PassIn) : (enterFlash p s).regLast = s.regLast := by
  unfold enterFlash; dsimp only; split <;> rfl
@[simp] theorem enterFlash_phaseEnd (s : State) (p : PassIn) : (enterFlash p s).phaseEnd = s.phaseEnd := by
  unfold enterFlash; dsimp only; split <;> rfl
@[simp] theorem enterFlash_nextFlash (s : State) (p : PassIn) : (enterFlash p s).nextFlash = s.nextFlash := by
  unfold enterFlash; dsimp only; split <;> rfl
@[simp] theorem enterFlash_lastContent (s : State) (p : PassIn) : (enterFlash p s).lastContent = s.lastContent := by
  unfold enterFlash; dsimp only; split <;> rfl
@[simp] theorem enterFlash_lastGlitch (s : State) (p : PassIn) : (enterFlash p s).lastGlitch = s.lastGlitch := by
  unfold enterFlash; dsimp only; split <;> rfl
@[simp] theorem enterFlash_port (s : State) (p : PassIn) : (enterFlash p s).port = s.port := by
  unfold enterFlash; dsimp only; split <;> rfl
@[simp] theorem enterFlash_passIn (s : State) (p : PassIn) : (enterFlash p s).passIn = s.passIn := by
  unfold enterFlash; dsimp only; split <;> rfl
@[simp] theorem enterFlash_freeSamples (s : State) (p : PassIn) : (enterFlash p s).freeSamples = s.freeSamples := by
  unfold enterFlash; dsimp only; split <;> rfl
@[simp] theorem enterFlash_tx (s : State) (p : PassIn) : (enterFlash p s).tx = s.tx := by
  unfold enterFlash; dsimp only; split <;> rfl

@[simp] theorem returnToBase_cfg (s : State) (p : PassIn) : (returnToBase p s).cfg = s.cfg := by
  simp [returnToBase]
@[simp] theorem returnToBase_rom (s : State) (p : PassIn) : (returnToBase p s).rom = s.rom := by
  simp [returnToBase]
@[simp] theorem returnToBase_res (s : State) (p : PassIn) : (returnToBase p s).res = s.res := by
  simp [returnToBase]
@[simp] theorem returnToBase_flags (s : State) (p : PassIn) : (returnToBase p s).flags = s.flags := by
  simp [returnToBase]
@[simp] theorem returnToBase_stage (s : State) (p : PassIn) : (returnToBase p s).stage = s.stage := by
  simp [returnToBase]
@[simp] theorem returnToBase_stageLen (s : State) (p : PassIn) : (returnToBase p s).stageLen = s.stageLen := by
  simp [returnToBase]
@[simp] theorem returnToBase_custom (s : State) (p : PassIn) : (returnToBase p s).custom = s.custom := by
  simp [returnToBase]
@[simp] theorem returnToBase_muxIdx (s : State) (p : PassIn) : (returnToBase p s).muxIdx = s.muxIdx := by
  simp [returnToBase]
@[simp] theorem returnToBase_muxLast (s : State) (p : PassIn) : (returnToBase p s).muxLast = s.muxLast := by
  simp [returnToBase]
@[simp] theorem returnToBase_frame (s : State) (p : PassIn) : (returnToBase p s).frame = s.frame := by
  simp [returnToBase]
@[simp] theorem returnToBase_txCount (s : State) (p : PassIn) : (returnToBase p s).txCount = s.txCount := by
  simp [returnToBase]
@[simp] theorem returnToBase_duty (s : State) (p : PassIn) : (returnToBase p s).duty = s.duty := by
  simp [returnToBase]
@[simp] theorem returnToBase_regLast (s : State) (p : PassIn) : (returnToBase p s).regLast = s.regLast := by
  simp [returnToBase]
@[simp] theorem returnToBase_phaseEnd (s : State) (p : PassIn) : (returnToBase p s).phaseEnd = s.phaseEnd := by
  simp [returnToBase]
@[simp] theorem returnToBase_lastGlitch (s : State) (p : PassIn) : (returnToBase p s).lastGlitch = s.lastGlitch := by
  simp [returnToBase]
@[simp] theorem returnToBase_msgSel (s : State) (p : PassIn) : (returnToBase p s).msgSel = s.msgSel := by
  simp [returnToBase]
@[simp] theorem returnToBase_port (s : State) (p : PassIn) : (returnToBase p s).port = s.port := by
  simp [returnToBase]
@[simp] theorem returnToBase_passIn (s : State) (p : PassIn) : (returnToBase p s).passIn = s.passIn := by
  simp [returnToBase]
@[simp] theorem returnToBase_freeSamples (s : State) (p : PassIn) : (returnToBase p s).freeSamples = s.freeSamples := by
  simp [returnToBase]
@[simp] theorem returnToBase_tx (s : State) (p : PassIn) : (returnToBase p s).tx = s.tx := by
  simp [returnToBase]
@[simp] theorem returnToBase_mode (s : State) (p : PassIn) : (returnToBase p s).mode = .base := by
  simp [returnToBase]
@[simp] theorem returnToBase_nextFlash (s : State) (p : PassIn) :
    (returnToBase p s).nextFlash = flashTime p.now s.cfg.flashMin s.cfg.flashMax p.rInt := by
  simp [returnToBase]
@[simp] theorem returnToBase_lastContent (s : State) (p : PassIn) :
    (returnToBase p s).lastContent = p.now := by
  simp [returnToBase]

@[simp] theorem returnToBase_buf (s : State) (p : PassIn) :
    (returnToBase p s).buf = contentCells s.cfg.loneDot s.nEff (baseText p s) s.buf := by
  rw [returnToBase, writeBase_buf]
  rfl
@[simp] theorem returnToBase_status (s : State) (p : PassIn) :
    (returnToBase p s).status = if baseIsCustom s.flags then s.status else putTimeErr s.status (!p.wcValid) := by
  rw [returnToBase, writeBase_status]

/-! ### The mode stage -/

@[simp] theorem stageBase_cfg (s : State) (p : PassIn) : (stageBase p s).cfg = s.cfg := by
  unfold stageBase; repeat (first | split | simp)
@[simp] theorem stageBase_rom (s : State) (p : PassIn) : (stageBase p s).rom = s.rom := by
  unfold stageBase; repeat (first | split | simp)
@[simp] theorem stageBase_res (s : State) (p : PassIn) : (stageBase p s).res = s.res := by
  unfold stageBase; repeat (first | split | simp)
@[simp] theorem stageBase_flags (s : State) (p : PassIn) : (stageBase p s).flags = s.flags := by
  unfold stageBase; repeat (first | split | simp)
@[simp] theorem stageBase_stage (s : State) (p : PassIn) : (stageBase p s).stage = s.stage := by
  unfold stageBase; repeat (first | split | simp)
@[simp] theorem stageBase_stageLen (s : State) (p : PassIn) : (stageBase p s).stageLen = s.stageLen := by
  unfold stageBase; repeat (first | split | simp)
@[simp] theorem stageBase_custom (s : State) (p : PassIn) : (stageBase p s).custom = s.custom := by
  unfold stageBase; repeat (first | split | simp)
@[simp] theorem stageBase_muxIdx (s : State) (p : PassIn) : (stageBase p s).muxIdx = s.muxIdx := by
  unfold stageBase; repeat (first | split | simp)
@[simp] theorem stageBase_muxLast (s : State) (p : PassIn) : (stageBase p s).muxLast = s.muxLast := by
  unfold stageBase; repeat (first | split | simp)
@[simp] theorem stageBase_frame (s : State) (p : PassIn) : (stageBase p s).frame = s.frame := by
  unfold stageBase; repeat (first | split | simp)
@[simp] theorem stageBase_txCount (s : State) (p : PassIn) : (stageBase p s).txCount = s.txCount := by
  unfold stageBase; repeat (first | split | simp)
@[simp] theorem stageBase_duty (s : State) (p : PassIn) : (stageBase p s).duty = s.duty := by
  unfold stageBase; repeat (first | split | simp)
@[simp] theorem stageBase_regLast (s : State) (p : PassIn) : (stageBase p s).regLast = s.regLast := by
  unfold stageBase; repeat (first | split | simp)
@[simp] theorem stageBase_port (s : State) (p : PassIn) : (stageBase p s).port = s.port := by
  unfold stageBase; repeat (first | split | simp)
@[simp] theorem stageBase_passIn (s : State) (p : PassIn) : (stageBase p s).passIn = s.passIn := by
  unfold stageBase; repeat (first | split | simp)
@[simp] theorem stageBase_freeSamples (s : State) (p : PassIn) : (stageBase p s).freeSamples = s.freeSamples := by
  unfold stageBase; repeat (first | split | simp)
@[simp] theorem stageBase_tx (s : State) (p : PassIn) : (stageBase p s).tx = s.tx := by
  unfold stageBase; repeat (first | split | simp)

@[simp] theorem stageGlitchIn_cfg (s : State) (p : PassIn) : (stageGlitchIn p s).cfg = s.cfg := by
  unfold stageGlitchIn; repeat (first | split | simp)
@[simp] theorem stageGlitchIn_rom (s : State) (p : PassIn) : (stageGlitchIn p s).rom = s.rom := by
  unfold stageGlitchIn; repeat (first | split | simp)
@[simp] theorem stageGlitchIn_res (s : State) (p : PassIn) : (stageGlitchIn p s).res = s.res := by
  unfold stageGlitchIn; repeat (first | split | simp)
@[simp] theorem stageGlitchIn_flags (s : State) (p : PassIn) : (stageGlitchIn p s).flags = s.flags := by
  unfold stageGlitchIn; repeat (first | split | simp)
@[simp] theorem stageGlitchIn_stage (s : State) (p : PassIn) : (stageGlitchIn p s).stage = s.stage := by
  unfold stageGlitchIn; repeat (first | split | simp)
@[simp] theorem stageGlitchIn_stageLen (s : State) (p : PassIn) : (stageGlitchIn p s).stageLen = s.stageLen := by
  unfold stageGlitchIn; repeat (first | split | simp)
@[simp] theorem stageGlitchIn_custom (s : State) (p : PassIn) : (stageGlitchIn p s).custom = s.custom := by
  unfold stageGlitchIn; repeat (first | split | simp)
@[simp] theorem stageGlitchIn_muxIdx (s : State) (p : PassIn) : (stageGlitchIn p s).muxIdx = s.muxIdx := by
  unfold stageGlitchIn; repeat (first | split | simp)
@[simp] theorem stageGlitchIn_muxLast (s : State) (p : PassIn) : (stageGlitchIn p s).muxLast = s.muxLast := by
  unfold stageGlitchIn; repeat (first | split | simp)
@[simp] theorem stageGlitchIn_frame (s : State) (p : PassIn) : (stageGlitchIn p s).frame = s.frame := by
  unfold stageGlitchIn; repeat (first | split | simp)
@[simp] theorem stageGlitchIn_txCount (s : State) (p : PassIn) : (stageGlitchIn p s).txCount = s.txCount := by
  unfold stageGlitchIn; repeat (first | split | simp)
@[simp] theorem stageGlitchIn_duty (s : State) (p : PassIn) : (stageGlitchIn p s).duty = s.duty := by
  unfold stageGlitchIn; repeat (first | split | simp)
@[simp] theorem stageGlitchIn_regLast (s : State) (p : PassIn) : (stageGlitchIn p s).regLast = s.regLast := by
  unfold stageGlitchIn; repeat (first | split | simp)
@[simp] theorem stageGlitchIn_port (s : State) (p : PassIn) : (stageGlitchIn p s).port = s.port := by
  unfold stageGlitchIn; repeat (first | split | simp)
@[simp] theorem stageGlitchIn_passIn (s : State) (p : PassIn) : (stageGlitchIn p s).passIn = s.passIn := by
  unfold stageGlitchIn; repeat (first | split | simp)
@[simp] theorem stageGlitchIn_freeSamples (s : State) (p : PassIn) : (stageGlitchIn p s).freeSamples = s.freeSamples := by
  unfold stageGlitchIn; repeat (first | split | simp)
@[simp] theorem stageGlitchIn_tx (s : State) (p : PassIn) : (stageGlitchIn p s).tx = s.tx := by
  unfold stageGlitchIn; repeat (first | split | simp)

@[simp] theorem stageFlash_cfg (s : State) (p : PassIn) : (stageFlash p s).cfg = s.cfg := by
  unfold stageFlash; repeat (first | split | simp)
@[simp] theorem stageFlash_rom (s : State) (p : PassIn) : (stageFlash p s).rom = s.rom := by
  unfold stageFlash; repeat (first | split | simp)
@[simp] theorem stageFlash_res (s : State) (p : PassIn) : (stageFlash p s).res = s.res := by
  unfold stageFlash; repeat (first | split | simp)
@[simp] theorem stageFlash_flags (s : State) (p : PassIn) : (stageFlash p s).flags = s.flags := by
  unfold stageFlash; repeat (first | split | simp)
@[simp] theorem stageFlash_stage (s : State) (p : PassIn) : (stageFlash p s).stage = s.stage := by
  unfold stageFlash; repeat (first | split | simp)
@[simp] theorem stageFlash_stageLen (s : State) (p : PassIn) : (stageFlash p s).stageLen = s.stageLen := by
  unfold stageFlash; repeat (first | split | simp)
@[simp] theorem stageFlash_custom (s : State) (p : PassIn) : (stageFlash p s).custom = s.custom := by
  unfold stageFlash; repeat (first | split | simp)
@[simp] theorem stageFlash_muxIdx (s : State) (p : PassIn) : (stageFlash p s).muxIdx = s.muxIdx := by
  unfold stageFlash; repeat (first | split | simp)
@[simp] theorem stageFlash_muxLast (s : State) (p : PassIn) : (stageFlash p s).muxLast = s.muxLast := by
  unfold stageFlash; repeat (first | split | simp)
@[simp] theorem stageFlash_frame (s : State) (p : PassIn) : (stageFlash p s).frame = s.frame := by
  unfold stageFlash; repeat (first | split | simp)
@[simp] theorem stageFlash_txCount (s : State) (p : PassIn) : (stageFlash p s).txCount = s.txCount := by
  unfold stageFlash; repeat (first | split | simp)
@[simp] theorem stageFlash_duty (s : State) (p : PassIn) : (stageFlash p s).duty = s.duty := by
  unfold stageFlash; repeat (first | split | simp)
@[simp] theorem stageFlash_regLast (s : State) (p : PassIn) : (stageFlash p s).regLast = s.regLast := by
  unfold stageFlash; repeat (first | split | simp)
@[simp] theorem stageFlash_port (s : State) (p : PassIn) : (stageFlash p s).port = s.port := by
  unfold stageFlash; repeat (first | split | simp)
@[simp] theorem stageFlash_passIn (s : State) (p : PassIn) : (stageFlash p s).passIn = s.passIn := by
  unfold stageFlash; repeat (first | split | simp)
@[simp] theorem stageFlash_freeSamples (s : State) (p : PassIn) : (stageFlash p s).freeSamples = s.freeSamples := by
  unfold stageFlash; repeat (first | split | simp)
@[simp] theorem stageFlash_tx (s : State) (p : PassIn) : (stageFlash p s).tx = s.tx := by
  unfold stageFlash; repeat (first | split | simp)

@[simp] theorem stageGlitchOut_cfg (s : State) (p : PassIn) : (stageGlitchOut p s).cfg = s.cfg := by
  unfold stageGlitchOut; repeat (first | split | simp)
@[simp] theorem stageGlitchOut_rom (s : State) (p : PassIn) : (stageGlitchOut p s).rom = s.rom := by
  unfold stageGlitchOut; repeat (first | split | simp)
@[simp] theorem stageGlitchOut_res (s : State) (p : PassIn) : (stageGlitchOut p s).res = s.res := by
  unfold stageGlitchOut; repeat (first | split | simp)
@[simp] theorem stageGlitchOut_flags (s : State) (p : PassIn) : (stageGlitchOut p s).flags = s.flags := by
  unfold stageGlitchOut; repeat (first | split | simp)
@[simp] theorem stageGlitchOut_stage (s : State) (p : PassIn) : (stageGlitchOut p s).stage = s.stage := by
  unfold stageGlitchOut; repeat (first | split | simp)
@[simp] theorem stageGlitchOut_stageLen (s : State) (p : PassIn) : (stageGlitchOut p s).stageLen = s.stageLen := by
  unfold stageGlitchOut; repeat (first | split | simp)
@[simp] theorem stageGlitchOut_custom (s : State) (p : PassIn) : (stageGlitchOut p s).custom = s.custom := by
  unfold stageGlitchOut; repeat (first | split | simp)
@[simp] theorem stageGlitchOut_muxIdx (s : State) (p : PassIn) : (stageGlitchOut p s).muxIdx = s.muxIdx := by
  unfold stageGlitchOut; repeat (first | split | simp)
@[simp] theorem stageGlitchOut_muxLast (s : State) (p : PassIn) : (stageGlitchOut p s).muxLast = s.muxLast := by
  unfold stageGlitchOut; repeat (first | split | simp)
@[simp] theorem stageGlitchOut_frame (s : State) (p : PassIn) : (stageGlitchOut p s).frame = s.frame := by
  unfold stageGlitchOut; repeat (first | split | simp)
@[simp] theorem stageGlitchOut_txCount (s : State) (p : PassIn) : (stageGlitchOut p s).txCount = s.txCount := by
  unfold stageGlitchOut; repeat (first | split | simp)
@[simp] theorem stageGlitchOut_duty (s : State) (p : PassIn) : (stageGlitchOut p s).duty = s.duty := by
  unfold stageGlitchOut; repeat (first | split | simp)
@[simp] theorem stageGlitchOut_regLast (s : State) (p : PassIn) : (stageGlitchOut p s).regLast = s.regLast := by
  unfold stageGlitchOut; repeat (first | split | simp)
@[simp] theorem stageGlitchOut_port (s : State) (p : PassIn) : (stageGlitchOut p s).port = s.port := by
  unfold stageGlitchOut; repeat (first | split | simp)
@[simp] theorem stageGlitchOut_passIn (s : State) (p : PassIn) : (stageGlitchOut p s).passIn = s.passIn := by
  unfold stageGlitchOut; repeat (first | split | simp)
@[simp] theorem stageGlitchOut_freeSamples (s : State) (p : PassIn) : (stageGlitchOut p s).freeSamples = s.freeSamples := by
  unfold stageGlitchOut; repeat (first | split | simp)
@[simp] theorem stageGlitchOut_tx (s : State) (p : PassIn) : (stageGlitchOut p s).tx = s.tx := by
  unfold stageGlitchOut; repeat (first | split | simp)

@[simp] theorem modeStage_cfg (s : State) (p : PassIn) : (modeStage p s).cfg = s.cfg := by
  unfold modeStage; split <;> simp
@[simp] theorem modeStage_rom (s : State) (p : PassIn) : (modeStage p s).rom = s.rom := by
  unfold modeStage; split <;> simp
@[simp] theorem modeStage_res (s : State) (p : PassIn) : (modeStage p s).res = s.res := by
  unfold modeStage; split <;> simp
@[simp] theorem modeStage_flags (s : State) (p : PassIn) : (modeStage p s).flags = s.flags := by
  unfold modeStage; split <;> simp
@[simp] theorem modeStage_stage (s : State) (p : PassIn) : (modeStage p s).stage = s.stage := by
  unfold modeStage; split <;> simp
@[simp] theorem modeStage_stageLen (s : State) (p : PassIn) : (modeStage p s).stageLen = s.stageLen := by
  unfold modeStage; split <;> simp
@[simp] theorem modeStage_custom (s : State) (p : PassIn) : (modeStage p s).custom = s.custom := by
  unfold modeStage; split <;> simp
@[simp] theorem modeStage_muxIdx (s : State) (p : PassIn) : (modeStage p s).muxIdx = s.muxIdx := by
  unfold modeStage; split <;> simp
@[simp] theorem modeStage_muxLast (s : State) (p : PassIn) : (modeStage p s).muxLast = s.muxLast := by
  unfold modeStage; split <;> simp
@[simp] theorem modeStage_frame (s : State) (p : PassIn) : (modeStage p s).frame = s.frame := by
  unfold modeStage; split <;> simp
@[simp] theorem modeStage_txCount (s : State) (p : PassIn) : (modeStage p s).txCount = s.txCount := by
  unfold modeStage; split <;> simp
@[simp] theorem modeStage_duty (s : State) (p : PassIn) : (modeStage p s).duty = s.duty := by
  unfold modeStage; split <;> simp
@[simp] theorem modeStage_regLast (s : State) (p : PassIn) : (modeStage p s).regLast = s.regLast := by
  unfold modeStage; split <;> simp
@[simp] theorem modeStage_port (s : State) (p : PassIn) : (modeStage p s).port = s.port := by
  unfold modeStage; split <;> simp
@[simp] theorem modeStage_passIn (s : State) (p : PassIn) : (modeStage p s).passIn = s.passIn := by
  unfold modeStage; split <;> simp
@[simp] theorem modeStage_freeSamples (s : State) (p : PassIn) : (modeStage p s).freeSamples = s.freeSamples := by
  unfold modeStage; split <;> simp
@[simp] theorem modeStage_tx (s : State) (p : PassIn) : (modeStage p s).tx = s.tx := by
  unfold modeStage; split <;> simp

/-! ### The regulator stage -/

@[simp] theorem regStage_cfg (s : State) (p : PassIn) : (regStage p s).cfg = s.cfg := by
  unfold regStage; dsimp only; repeat (first | split | rfl)
@[simp] theorem regStage_rom (s : State) (p : PassIn) : (regStage p s).rom = s.rom := by
  unfold regStage; dsimp only; repeat (first | split | rfl)
@[simp] theorem regStage_res (s : State) (p : PassIn) : (regStage p s).res = s.res := by
  unfold regStage; dsimp only; repeat (first | split | rfl)
@[simp] theorem regStage_flags (s : State) (p : PassIn) : (regStage p s).flags = s.flags := by
  unfold regStage; dsimp only; repeat (first | split | rfl)
@[simp] theorem regStage_mode (s : State) (p : PassIn) : (regStage p s).mode = s.mode := by
  unfold regStage; dsimp only; repeat (first | split | rfl)
@[simp] theorem regStage_stage (s : State) (p : PassIn) : (regStage p s).stage = s.stage := by
  unfold regStage; dsimp only; repeat (first | split | rfl)
@[simp] theorem regStage_stageLen (s : State) (p : PassIn) : (regStage p s).stageLen = s.stageLen := by
  unfold regStage; dsimp only; repeat (first | split | rfl)
@[simp] theorem regStage_custom (s : State) (p : PassIn) : (regStage p s).custom = s.custom := by
  unfold regStage; dsimp only; repeat (first | split | rfl)
@[simp] theorem regStage_buf (s : State) (p : PassIn) : (regStage p s).buf = s.buf := by
  unfold regStage; dsimp only; repeat (first | split | rfl)
@[simp] theorem regStage_muxIdx (s : State) (p : PassIn) : (regStage p s).muxIdx = s.muxIdx := by
  unfold regStage; dsimp only; repeat (first | split | rfl)
@[simp] theorem regStage_muxLast (s : State) (p : PassIn) : (regStage p s).muxLast = s.muxLast := by
  unfold regStage; dsimp only; repeat (first | split | rfl)
@[simp] theorem regStage_frame (s : State) (p : PassIn) : (regStage p s).frame = s.frame := by
  unfold regStage; dsimp only; repeat (first | split | rfl)
@[simp] theorem regStage_txCount (s : State) (p : PassIn) : (regStage p s).txCount = s.txCount := by
  unfold regStage; dsimp only; repeat (first | split | rfl)
@[simp] theorem regStage_phaseEnd (s : State) (p : PassIn) : (regStage p s).phaseEnd = s.phaseEnd := by
  unfold regStage; dsimp only; repeat (first | split | rfl)
@[simp] theorem regStage_nextFlash (s : State) (p : PassIn) : (regStage p s).nextFlash = s.nextFlash := by
  unfold regStage; dsimp only; repeat (first | split | rfl)
@[simp] theorem regStage_lastContent (s : State) (p : PassIn) : (regStage p s).lastContent = s.lastContent := by
  unfold regStage; dsimp only; repeat (first | split | rfl)
@[simp] theorem regStage_lastGlitch (s : State) (p : PassIn) : (regStage p s).lastGlitch = s.lastGlitch := by
  unfold regStage; dsimp only; repeat (first | split | rfl)
@[simp] theorem regStage_msgSel (s : State) (p : PassIn) : (regStage p s).msgSel = s.msgSel := by
  unfold regStage; dsimp only; repeat (first | split | rfl)
@[simp] theorem regStage_port (s : State) (p : PassIn) : (regStage p s).port = s.port := by
  unfold regStage; dsimp only; repeat (first | split | rfl)
@[simp] theorem regStage_passIn (s : State) (p : PassIn) : (regStage p s).passIn = s.passIn := by
  unfold regStage; dsimp only; repeat (first | split | rfl)
@[simp] theorem regStage_freeSamples (s : State) (p : PassIn) : (regStage p s).freeSamples = s.freeSamples := by
  unfold regStage; dsimp only; repeat (first | split | rfl)
@[simp] theorem regStage_tx (s : State) (p : PassIn) : (regStage p s).tx = s.tx := by
  unfold regStage; dsimp only; repeat (first | split | rfl)

/-! ### The multiplexer stage -/

@[simp] theorem muxStage_cfg (s : State) (now : Word) : (muxStage now s).cfg = s.cfg := by
  unfold muxStage; split <;> rfl
@[simp] theorem muxStage_rom (s : State) (now : Word) : (muxStage now s).rom = s.rom := by
  unfold muxStage; split <;> rfl
@[simp] theorem muxStage_res (s : State) (now : Word) : (muxStage now s).res = s.res := by
  unfold muxStage; split <;> rfl
@[simp] theorem muxStage_status (s : State) (now : Word) : (muxStage now s).status = s.status := by
  unfold muxStage; split <;> rfl
@[simp] theorem muxStage_flags (s : State) (now : Word) : (muxStage now s).flags = s.flags := by
  unfold muxStage; split <;> rfl
@[simp] theorem muxStage_mode (s : State) (now : Word) : (muxStage now s).mode = s.mode := by
  unfold muxStage; split <;> rfl
@[simp] theorem muxStage_stage (s : State) (now : Word) : (muxStage now s).stage = s.stage := by
  unfold muxStage; split <;> rfl
@[simp] theorem muxStage_stageLen (s : State) (now : Word) : (muxStage now s).stageLen = s.stageLen := by
  unfold muxStage; split <;> rfl
@[simp] theorem muxStage_custom (s : State) (now : Word) : (muxStage now s).custom = s.custom := by
  unfold muxStage; split <;> rfl
@[simp] theorem muxStage_buf (s : State) (now : Word) : (muxStage now s).buf = s.buf := by
  unfold muxStage; split <;> rfl
@[simp] theorem muxStage_duty (s : State) (now : Word) : (muxStage now s).duty = s.duty := by
  unfold muxStage; split <;> rfl
@[simp] theorem muxStage_regLast (s : State) (now : Word) : (muxStage now s).regLast = s.regLast := by
  unfold muxStage; split <;> rfl
@[simp] theorem muxStage_phaseEnd (s : State) (now : Word) : (muxStage now s).phaseEnd = s.phaseEnd := by
  unfold muxStage; split <;> rfl
@[simp] theorem muxStage_nextFlash (s : State) (now : Word) : (muxStage now s).nextFlash = s.nextFlash := by
  unfold muxStage; split <;> rfl
@[simp] theorem muxStage_lastContent (s : State) (now : Word) : (muxStage now s).lastContent = s.lastContent := by
  unfold muxStage; split <;> rfl
@[simp] theorem muxStage_lastGlitch (s : State) (now : Word) : (muxStage now s).lastGlitch = s.lastGlitch := by
  unfold muxStage; split <;> rfl
@[simp] theorem muxStage_msgSel (s : State) (now : Word) : (muxStage now s).msgSel = s.msgSel := by
  unfold muxStage; split <;> rfl
@[simp] theorem muxStage_port (s : State) (now : Word) : (muxStage now s).port = s.port := by
  unfold muxStage; split <;> rfl
@[simp] theorem muxStage_passIn (s : State) (now : Word) : (muxStage now s).passIn = s.passIn := by
  unfold muxStage; split <;> rfl
@[simp] theorem muxStage_freeSamples (s : State) (now : Word) : (muxStage now s).freeSamples = s.freeSamples := by
  unfold muxStage; split <;> rfl

/-! ### The pass -/

@[simp] theorem runPass_cfg (s : State) (p : PassIn) : (runPass p s).cfg = s.cfg := by
  simp [runPass]
@[simp] theorem runPass_rom (s : State) (p : PassIn) : (runPass p s).rom = s.rom := by
  simp [runPass]
@[simp] theorem runPass_res (s : State) (p : PassIn) : (runPass p s).res = s.res := by
  simp [runPass]
@[simp] theorem runPass_flags (s : State) (p : PassIn) : (runPass p s).flags = s.flags := by
  simp [runPass]
@[simp] theorem runPass_stage (s : State) (p : PassIn) : (runPass p s).stage = s.stage := by
  simp [runPass]
@[simp] theorem runPass_stageLen (s : State) (p : PassIn) : (runPass p s).stageLen = s.stageLen := by
  simp [runPass]
@[simp] theorem runPass_custom (s : State) (p : PassIn) : (runPass p s).custom = s.custom := by
  simp [runPass]
@[simp] theorem runPass_port (s : State) (p : PassIn) : (runPass p s).port = s.port := by
  simp [runPass]
@[simp] theorem runPass_passIn (s : State) (p : PassIn) : (runPass p s).passIn = s.passIn := by
  simp [runPass]
@[simp] theorem runPass_freeSamples (s : State) (p : PassIn) : (runPass p s).freeSamples = s.freeSamples := by
  simp [runPass]
@[simp] theorem runPass_mode (s : State) (p : PassIn) : (runPass p s).mode = (modeStage p s).mode := by
  simp [runPass]
@[simp] theorem runPass_phaseEnd (s : State) (p : PassIn) : (runPass p s).phaseEnd = (modeStage p s).phaseEnd := by
  simp [runPass]
@[simp] theorem runPass_nextFlash (s : State) (p : PassIn) : (runPass p s).nextFlash = (modeStage p s).nextFlash := by
  simp [runPass]
@[simp] theorem runPass_lastContent (s : State) (p : PassIn) : (runPass p s).lastContent = (modeStage p s).lastContent := by
  simp [runPass]
@[simp] theorem runPass_lastGlitch (s : State) (p : PassIn) : (runPass p s).lastGlitch = (modeStage p s).lastGlitch := by
  simp [runPass]
@[simp] theorem runPass_msgSel (s : State) (p : PassIn) : (runPass p s).msgSel = (modeStage p s).msgSel := by
  simp [runPass]
@[simp] theorem runPass_buf (s : State) (p : PassIn) : (runPass p s).buf = (modeStage p s).buf := by
  simp [runPass]
@[simp] theorem runPass_duty (s : State) (p : PassIn) : (runPass p s).duty = (regStage p (modeStage p s)).duty := by
  simp [runPass]
@[simp] theorem runPass_regLast (s : State) (p : PassIn) :
    (runPass p s).regLast = (regStage p (modeStage p s)).regLast := by
  simp [runPass]
@[simp] theorem runPass_status (s : State) (p : PassIn) :
    (runPass p s).status = (regStage p (modeStage p s)).status := by
  simp [runPass]

end Sys2Proof.Machine
end

