-- ==== Sys2Proof/Laws/Pass.lean ====
section
/-! SUPPORT. Once for each stage of a pass, everything it can do (45_mode_machine.md R198, 46_regulator.md R232,
44_multiplexer.md R172), and the conditions the stages test in the terms of BitVec and Nat. -/

namespace Sys2Proof.Machine

/-- `flash_ok` holds for one value of FLAGS: AUTO_EN with CLOCK (45_mode_machine.md R190). -/
theorem flashOk_iff (s : State) : flashOk s = true ↔ s.flags = 2#2 := by
  unfold flashOk autoEnabled baseIsCustom
  generalize s.flags = f
  revert f
  decide

/-- A phase end cuts the cycle short (45_mode_machine.md R200). -/
theorem endsAtPhase_iff (s : State) :
    endsAtPhase s = true ↔ s.cfg.disablePolicy = .endAtPhase ∧ s.flags ≠ 2#2 := by
  rw [endsAtPhase, Bool.and_eq_true, decide_eq_true_eq, Bool.not_eq_true', ← Bool.not_eq_true, flashOk_iff]

/-- `reached` as a comparison of integers (00_scope.md R16). -/
theorem reached_iff (now t : Word) : reached now t = true ↔ 0 ≤ (now - t).toInt := by
  simp [reached]

/-- A stage's time gate as a comparison of numbers (00_scope.md R16). -/
theorem le_elapsed_iff (q now t : Word) : q ≤ elapsed now t ↔ q.toNat ≤ (now - t).toNat := by
  simp [elapsed, BitVec.le_def]

/-- The multiplexer gate (44_multiplexer.md R170). -/
theorem muxDue_iff (now : Word) (s : State) :
    muxDue now s = true ↔ s.cfg.refreshQ.toNat ≤ (now - s.muxLast).toNat := by
  rw [muxDue, decide_eq_true_eq, le_elapsed_iff]

/-- The regulator gate (46_regulator.md R231). -/
theorem regDue_iff (now : Word) (s : State) :
    regDue now s = true ↔ s.cfg.regPeriod.toNat ≤ (now - s.regLast).toNat := by
  rw [regDue, decide_eq_true_eq, le_elapsed_iff]

/-- The multiplexer stage when it is not due (44_multiplexer.md R170). -/
theorem muxStage_not_due (now : Word) (s : State) (h : muxDue now s = false) : muxStage now s = s := by
  simp [muxStage, h]

/-- The multiplexer stage when it is due (44_multiplexer.md R172). -/
theorem muxStage_due (now : Word) (s : State) (h : muxDue now s = true) :
    muxStage now s = { s.emitTx (muxFrame s) with muxIdx := nextMuxIdx s, muxLast := now } := by
  simp [muxStage, h]

/-- The regulator stage when it is not due (46_regulator.md R231). -/
theorem regStage_not_due (p : PassIn) (s : State) (h : regDue p.now s = false) : regStage p s = s := by
  simp [regStage, h]

/-- The regulator stage at a due tick, sensor disconnected (46_regulator.md R234). -/
theorem regStage_disconnected (p : PassIn) (s : State) (h : regDue p.now s = true) (hc : p.vConn = false) :
    regStage p s = { s with regLast := p.now, status := putVDisc s.status true } := by
  simp [regStage, h, hc, State.setVDisc]

/-- The regulator stage at a due tick, sensor connected (46_regulator.md R232). -/
theorem regStage_connected (p : PassIn) (s : State) (h : regDue p.now s = true) (hc : p.vConn = true) :
    regStage p s = { s with
      regLast := p.now, status := putVDisc s.status false, duty := nextDuty s.cfg p.vRaw s.duty } := by
  simp [regStage, h, hc, State.setVDisc]

/-- Below the target the duty rises by one, clamped (46_regulator.md R232). -/
theorem nextDuty_below (e : EffCfg) (v d : BitVec 16) (h : v.toNat * e.vNum.toNat < e.vTarget.toNat * e.vDen.toNat) :
    (nextDuty e v d).toNat = min (d.toNat + 1) e.dutyMax.toNat := by
  have h1 := e.dutyMax.isLt
  simp only [nextDuty, if_pos h, BitVec.toNat_ofInt]
  omega

/-- Above the target the duty falls by one, clamped (46_regulator.md R232). -/
theorem nextDuty_above (e : EffCfg) (v d : BitVec 16) (h : v.toNat * e.vNum.toNat > e.vTarget.toNat * e.vDen.toNat) :
    ((nextDuty e v d).toNat : Int) = max (d.toNat - 1) e.dutyMin.toNat := by
  have h1 := e.dutyMin.isLt
  have h2 := d.isLt
  have h3 : ¬ v.toNat * e.vNum.toNat < e.vTarget.toNat * e.vDen.toNat := by omega
  simp only [nextDuty, if_neg h3, if_pos h, BitVec.toNat_ofInt]
  omega

/-- At the target the duty stays (46_regulator.md R232). -/
theorem nextDuty_equal (e : EffCfg) (v d : BitVec 16) (h : v.toNat * e.vNum.toNat = e.vTarget.toNat * e.vDen.toNat) :
    nextDuty e v d = d := by
  simp [nextDuty, h]

/-- What the regulator stage does to each bit of STATUS: only V_DISC may change (46_regulator.md R232). -/
theorem regStage_status_getLsbD (p : PassIn) (s : State) (j : Nat) (hj : j ≠ 1) :
    (regStage p s).status.getLsbD j = s.status.getLsbD j := by
  cases hd : regDue p.now s
  · rw [regStage_not_due p s hd]
  · cases hc : p.vConn
    · rw [regStage_disconnected p s hd hc]
      exact (putBit_getLsbD _ _ _ _ (by decide)).trans (if_neg hj)
    · rw [regStage_connected p s hd hc]
      exact (putBit_getLsbD _ _ _ _ (by decide)).trans (if_neg hj)

/-- What the mode stage leaves in STATUS: the word as it was, or with TIME_ERR written (45_mode_machine.md R194). -/
theorem modeStage_status (p : PassIn) (s : State) :
    (modeStage p s).status = s.status ∨ ∃ v, (modeStage p s).status = putTimeErr s.status v := by
  have hb : ∀ u : State, u.status = s.status →
      (writeBase p u).status = s.status ∨ ∃ v, (writeBase p u).status = putTimeErr s.status v := by
    intro u hu
    rw [writeBase_status, hu]
    split
    · exact .inl rfl
    · exact .inr ⟨_, rfl⟩
  unfold modeStage stageBase stageGlitchIn stageFlash stageGlitchOut
  repeat (first | split | exact hb _ rfl | (refine .inl ?_; simp))

/-- What the mode stage does to each bit of STATUS: only TIME_ERR may change (45_mode_machine.md R194). -/
theorem modeStage_status_getLsbD (p : PassIn) (s : State) (j : Nat) (hj : j ≠ 2) :
    (modeStage p s).status.getLsbD j = s.status.getLsbD j := by
  rcases modeStage_status p s with h | ⟨v, h⟩
  · rw [h]
  · rw [h, putTimeErr, putBit_getLsbD _ _ _ _ (by decide), if_neg hj]

/-- What a pass does to each bit of STATUS (47_control_loop.md R251). -/
theorem runPass_status_getLsbD (p : PassIn) (s : State) (j : Nat) (h1 : j ≠ 1) (h2 : j ≠ 2) :
    (runPass p s).status.getLsbD j = s.status.getLsbD j := by
  rw [runPass_status, regStage_status_getLsbD _ _ _ h1, modeStage_status_getLsbD _ _ _ h2]

/-- TIME_ERR after a pass is the mode stage's (46_regulator.md R232). -/
theorem runPass_timeErr (p : PassIn) (s : State) :
    statusTimeErr (runPass p s).status = statusTimeErr (modeStage p s).status := by
  rw [runPass_status]
  exact regStage_status_getLsbD _ _ _ (by decide)

/-- The buffer after `enter_flash` holds some content (45_mode_machine.md R192). -/
theorem enterFlash_buf (p : PassIn) (s : State) :
    ∃ t, (enterFlash p s).buf = contentCells s.cfg.loneDot s.nEff t s.buf := by
  unfold enterFlash
  split
  · exact ⟨_, rfl⟩
  · exact ⟨_, rfl⟩

/-- The mode stage calls `set_content` at most once (47_control_loop.md R254). -/
theorem modeStage_buf (p : PassIn) (s : State) :
    (modeStage p s).buf = s.buf ∨ ∃ t, (modeStage p s).buf = contentCells s.cfg.loneDot s.nEff t s.buf := by
  have hg : ∀ u : State, u.buf = s.buf → u.cfg = s.cfg →
      ∃ t, (writeGlitch p u).buf = contentCells s.cfg.loneDot s.nEff t s.buf := by
    intro u h1 h2
    refine ⟨glitchText p u, (writeGlitch_buf u p).trans ?_⟩
    rw [State.nEff, State.nEff, h1, h2]
  have hr : ∃ t, (returnToBase p s).buf = contentCells s.cfg.loneDot s.nEff t s.buf :=
    ⟨_, returnToBase_buf s p⟩
  unfold modeStage
  split
  · unfold stageBase
    split
    · exact .inr (hg _ rfl rfl)
    · split
      · exact .inr ⟨_, writeBase_buf s p⟩
      · exact .inl rfl
  · unfold stageGlitchIn
    split
    · split
      · exact .inr hr
      · exact .inr (enterFlash_buf p _)
    · split
      · exact .inr (hg _ rfl rfl)
      · exact .inl rfl
  · unfold stageFlash
    split
    · split
      · exact .inr hr
      · exact .inr (hg _ rfl rfl)
    · exact .inl rfl
  · unfold stageGlitchOut
    split
    · exact .inr hr
    · split
      · exact .inr (hg _ rfl rfl)
      · exact .inl rfl

/-- A pass makes at most one TX event, of the frame it leaves in FRAME (47_control_loop.md R254). -/
theorem runPass_tx (p : PassIn) (s : State) :
    ((runPass p s).tx = s.tx ∧ (runPass p s).frame = s.frame ∧ (runPass p s).txCount = s.txCount) ∨
    ((runPass p s).tx = s.tx ++ [txEvent (runPass p s).frame] ∧ (runPass p s).txCount = s.txCount + 1#32) := by
  unfold runPass
  cases h : muxDue p.now (regStage p (modeStage p s))
  · rw [muxStage_not_due _ _ h]
    exact .inl ⟨by simp, by simp, by simp⟩
  · rw [muxStage_due _ _ h]
    exact .inr ⟨by simp, by simp⟩

/-- Sampling PASS_IN changes nothing but the ports (47_control_loop.md R251; log 5). -/
theorem dropSample_form (s : State) : ∃ a b, s.dropSample = { s with passIn := a, freeSamples := b } := by
  unfold State.dropSample
  split
  · exact ⟨s.passIn, s.freeSamples + 1, rfl⟩
  · exact ⟨_, s.freeSamples, rfl⟩

/-- `enter_flash` with an empty message table (45_mode_machine.md R192, R197). -/
theorem enterFlash_of_no_message (p : PassIn) (s : State) (h : s.cfg.msgCount = 0#8) :
    enterFlash p s = setContent [] { s with msgSel := 0#8 } := by
  rw [enterFlash, if_pos (by rw [h]; rfl)]

/-- `enter_flash` with a message to show (45_mode_machine.md R192, R197). -/
theorem enterFlash_of_message (p : PassIn) (s : State) (h : s.cfg.msgCount ≠ 0#8) :
    enterFlash p s = setContent (s.rom.msgTable.getD (p.rMsg.toNat % s.cfg.msgCount.toNat) [])
      { s with msgSel := BitVec.ofNat 8 (p.rMsg.toNat % s.cfg.msgCount.toNat) } := by
  have h0 : ¬ s.cfg.msgCount.toNat = 0 := fun hh => h (BitVec.eq_of_toNat_eq hh)
  rw [enterFlash, if_neg h0]

/-- What a PASS samples leaves the rest of the state alone, so a stage sees the state before it. -/
theorem exec_pass (s : State) : exec .pass s = .next (runPass s.sample s.dropSample) := rfl

end Sys2Proof.Machine
end

