-- ==== Sys2Proof/Laws/PerInstr.lean ====
section
/-! SUPPORT. The shape of every encoding, command by command (30_encoding.md R91, R93): the opcode field holds the
row's opcode and the reserved field of its format is zero. -/

namespace Sys2Proof.Laws

/-- The opcode field of a word whose upper four bits are given. -/
theorem opField_append (op : BitVec 4) (rest : BitVec 28) : opField (op ++ rest) = op := by
  apply BitVec.eq_of_getLsbD_eq
  intro j hj
  rw [opField, BitVec.getLsbD_extractLsb', BitVec.getLsbD_append, if_neg (by omega)]
  simp [hj]

/-- A word's reserved field is zero when each of its bits is, bit by bit. -/
theorem and_eq_zero_of_bits (w mask : Word)
    (h : ∀ j, j < 32 → mask.getLsbD j = true → w.getLsbD j = false) : w &&& mask = 0#32 := by
  apply BitVec.eq_of_getLsbD_eq
  intro j hj
  rw [BitVec.getLsbD_and]
  cases hm : mask.getLsbD j
  · simp
  · simp [h j hj hm]

/-- The upper 28 - n bits of a format's operand field are zero when the field is zero-extended. -/
theorem extended_and_mask {n k : Nat} (op : BitVec 4) (x : BitVec n) (h : k + n = 28) (mask : Word)
    (hm : ∀ j, j < 32 → mask.getLsbD j = true → n ≤ j ∧ j < 28) :
    (op ++ ((0#k ++ x).cast h)) &&& mask = 0#32 := by
  apply and_eq_zero_of_bits
  intro j hj hj'
  obtain ⟨h1, h2⟩ := hm j hj hj'
  rw [BitVec.getLsbD_append, if_pos h2, BitVec.getLsbD_cast, BitVec.getLsbD_append, if_neg (by omega)]
  simp

namespace EncodingShape

/-- The opcode of a command (30_encoding.md R93). -/
def opcode : Instr → Nat
  | .nop => 0x0
  | .pass => 0x1
  | .enc _ => 0x2
  | .pack _ _ => 0x3
  | .flags _ _ => 0x4
  | .tclr => 0x5
  | .tapp _ => 0x6
  | .tcommit => 0x7
  | .rd _ => 0x8

/-- The opcode field holds the row's opcode, the reserved field of its format is zero. -/
def Statement (i : Instr) : Prop :=
  (opField (encode i)).toNat = opcode i ∧ encode i &&& reservedMask (opField (encode i)) = 0#32

/-- The masks of formats B, P and F cover the bits above their operands (30_encoding.md R91). -/
theorem maskB_bits : ∀ j, j < 32 → (0x0FFFFF00#32).getLsbD j = true → 8 ≤ j ∧ j < 28 := by
  have : ∀ j : Fin 32, (0x0FFFFF00#32).getLsbD j.val = true → 8 ≤ j.val ∧ j.val < 28 := by decide
  exact fun j hj => this ⟨j, hj⟩

theorem maskP_bits : ∀ j, j < 32 → (0x0FFFE000#32).getLsbD j = true → 13 ≤ j ∧ j < 28 := by
  have : ∀ j : Fin 32, (0x0FFFE000#32).getLsbD j.val = true → 13 ≤ j.val ∧ j.val < 28 := by decide
  exact fun j hj => this ⟨j, hj⟩

theorem maskF_bits : ∀ j, j < 32 → (0x0FFFFFFC#32).getLsbD j = true → 2 ≤ j ∧ j < 28 := by
  have : ∀ j : Fin 32, (0x0FFFFFFC#32).getLsbD j.val = true → 2 ≤ j.val ∧ j.val < 28 := by decide
  exact fun j hj => this ⟨j, hj⟩

theorem nop : Statement .nop := ⟨by decide, by decide⟩

theorem pass : Statement .pass := ⟨by decide, by decide⟩

theorem enc (b : Byte) : Statement (.enc b) := by
  have h : opField (encode (.enc b)) = 2#4 := opField_append _ _
  exact ⟨by rw [h]; rfl, by rw [h]; exact extended_and_mask 2#4 b rfl _ maskB_bits⟩

theorem pack (d : BitVec 5) (m : Byte) : Statement (.pack d m) := by
  have h : opField (encode (.pack d m)) = 3#4 := opField_append _ _
  exact ⟨by rw [h]; rfl, by rw [h]; exact extended_and_mask 3#4 (d ++ m) rfl _ maskP_bits⟩

theorem flags (c e : BitVec 1) : Statement (.flags c e) := by
  have h : opField (encode (.flags c e)) = 4#4 := opField_append _ _
  exact ⟨by rw [h]; rfl, by rw [h]; exact extended_and_mask 4#4 (e ++ c) rfl _ maskF_bits⟩

theorem tclr : Statement .tclr := ⟨by decide, by decide⟩

theorem tapp (b : Byte) : Statement (.tapp b) := by
  have h : opField (encode (.tapp b)) = 6#4 := opField_append _ _
  exact ⟨by rw [h]; rfl, by rw [h]; exact extended_and_mask 6#4 b rfl _ maskB_bits⟩

theorem tcommit : Statement .tcommit := ⟨by decide, by decide⟩

theorem rd (b : Byte) : Statement (.rd b) := by
  have h : opField (encode (.rd b)) = 8#4 := opField_append _ _
  exact ⟨by rw [h]; rfl, by rw [h]; exact extended_and_mask 8#4 b rfl _ maskB_bits⟩

end EncodingShape

end Sys2Proof.Laws
end

