-- ==== Sys2Proof/Laws/Port.lean ====
section
/-! SUPPORT. Once for each arrival at the ports, what a step makes of it (20_memory.md R77, 30_encoding.md R94,
93_implementation_defined.md I19), and that every meaning completes (60_exceptions.md R300). -/

namespace Sys2Proof.Machine

@[simp] theorem mayIssue_loop (w : Word) : mayIssue .loop w = true := rfl

@[simp] theorem mayIssue_host (w : Word) : mayIssue .host w = true ↔ decode w ≠ .command .pass := by
  simp [mayIssue]

theorem runWord_command {w : Word} {i : Instr} (h : decode w = .command i) (s : State) :
    runWord w s = exec i s := by
  simp only [runWord, h]

theorem runWord_illegal {w : Word} {c : IllegalCause} (h : decode w = .illegal c) (s : State) :
    runWord w s = .next (raiseIllegal c s) := by
  simp only [runWord, h]

theorem runCommand_of_mayIssue {a : Agent} {w : Word} (h : mayIssue a w = true) (s : State) :
    runCommand a w s = runWord w s := by
  rw [runCommand, if_pos h]

theorem runCommand_host_pass {w : Word} (h : decode w = .command .pass) (s : State) :
    runCommand .host w s = .refused .hostPass := by
  rw [runCommand, if_neg]
  simpa using h

/-- A command that answers a next state is one that its agent may issue. -/
theorem runCommand_eq_next {a : Agent} {w : Word} {s t : State} (h : runCommand a w s = .next t) :
    mayIssue a w = true ∧ runWord w s = .next t := by
  unfold runCommand at h
  split at h
  · exact ⟨‹_›, h⟩
  · cases h

/-- Every meaning completes in every state (60_exceptions.md R300). -/
theorem exec_completes (i : Instr) (s : State) : ∃ t, exec i s = .next t := by
  cases i
  case rd b => simp only [exec, execRd]; split <;> exact ⟨_, rfl⟩
  all_goals exact ⟨_, rfl⟩

theorem runWord_completes (w : Word) (s : State) : ∃ t, runWord w s = .next t := by
  unfold runWord
  split
  · exact exec_completes _ _
  · exact ⟨_, rfl⟩

theorem step_command {s : State} {a : Agent} {w : Word} {rest : List PortEvent}
    (h : s.port = .command a w :: rest) : step s = runCommand a w { s with port := rest } := by
  simp only [step, h, runEvent, State.dropEvent, List.tail_cons]

theorem step_reset {s : State} {r : ResetRecord} {rest : List PortEvent} (h : s.port = .reset r :: rest) :
    step s = runReset r { s with port := rest } := by
  simp only [step, h, runEvent, State.dropEvent, List.tail_cons]

theorem step_idle {s : State} (h : s.port = []) : step s = runWord 0#32 s := by
  simp only [step, h]

end Sys2Proof.Machine
end

