-- ==== Sys2Proof/Laws/Reset.lean ====
section
/-! SUPPORT. What reset computes: the clamps, the two configuration flags and the pin map (10_state.md R20, R43,
70_reset_and_hazards.md R341, R342). -/

namespace Sys2Proof.Machine

/-- `N_eff` is 1 to 16 (10_state.md R20). -/
theorem effN_bounds (c : Cfg) : 1 ≤ effN c ∧ effN c ≤ 16 := by
  unfold effN
  omega

/-- `S_eff` is at most 8 (10_state.md R20). -/
theorem effS_le (c : Cfg) : effS c ≤ 8 := by
  unfold effS
  omega

/-- The value of `N_eff` after reset (10_state.md R20). -/
theorem effCfg_nEff_toNat (c : Cfg) : (effCfg c).nEff.toNat = effN c := by
  have := effN_bounds c
  simp only [effCfg, BitVec.toNat_ofNat]
  omega

/-- The value of `S_eff` after reset (10_state.md R20). -/
theorem effCfg_sEff_toNat (c : Cfg) : (effCfg c).sEff.toNat = effS c := by
  have := effS_le c
  simp only [effCfg, BitVec.toNat_ofNat]
  omega

/-- A clamped time parameter (10_state.md R20). -/
theorem clampTime_toNat (t : Word) : (clampTime t).toNat = min t.toNat (2 ^ 31 - 1) := by
  simp only [clampTime, timeMax, BitVec.toNat_ofNat]
  omega

/-- A clamped pin index (10_state.md R20). -/
theorem clampPin_toNat (p : Byte) : (clampPin p).toNat = min p.toNat 23 := by
  simp only [clampPin, BitVec.toNat_ofNat]
  omega

/-- Membership in the first `n` entries of an array. -/
theorem mem_take_iff {α : Type} {m : Nat} (v : Vector α m) (n : Nat) (x : α) :
    x ∈ v.toList.take n ↔ ∃ k : Fin m, k.val < n ∧ v[k] = x := by
  rw [List.mem_iff_getElem]
  constructor
  · rintro ⟨i, hi, rfl⟩
    rw [List.length_take, Vector.length_toList] at hi
    exact ⟨⟨i, by omega⟩, by simp only; omega, by simp⟩
  · rintro ⟨k, hk, rfl⟩
    exact ⟨k.val, by simp [hk], by simp⟩

/-- Condition 3 of the report of clamping (70_reset_and_hazards.md R342). -/
theorem pinClamped_iff (c : Cfg) : pinClamped c = true ↔
    (∃ k : Fin 16, k.val < effN c ∧ 23 < c.digitPin[k].toNat) ∨
    (∃ i : Fin 8, i.val < effS c ∧ 23 < c.segPin[i].toNat) := by
  have key : ∀ {m : Nat} (v : Vector Byte m) (n : Nat),
      (v.toList.take n).any (fun p => decide (23 < p.toNat)) = true ↔
        ∃ k : Fin m, k.val < n ∧ 23 < v[k].toNat := by
    intro m v n
    rw [List.any_eq_true]
    constructor
    · rintro ⟨x, hx, hf⟩
      obtain ⟨k, hk, rfl⟩ := (mem_take_iff v n x).mp hx
      exact ⟨k, hk, of_decide_eq_true hf⟩
    · rintro ⟨k, hk, hf⟩
      exact ⟨_, (mem_take_iff v n _).mpr ⟨k, hk, rfl⟩, decide_eq_true hf⟩
  rw [pinClamped, Bool.or_eq_true, key, key]

/-- Bit by bit, STATUS at reset (70_reset_and_hazards.md R341). -/
theorem resetStatus_getLsbD (c : Cfg) (j : Nat) : (resetStatus c).getLsbD j =
    if j = 4 then cfgDuplicate (effCfg c) else if j = 3 then cfgClamped c else false := by
  rw [resetStatus, putCfgDup, putBit_getLsbD _ _ _ _ (by decide), putCfgClamp, putBit_getLsbD _ _ _ _ (by decide)]
  simp only [BitVec.getLsbD_zero]

/-- `allDistinct` is the library's `Nodup`. -/
theorem allDistinct_iff_nodup (l : List (BitVec 5)) : allDistinct l = true ↔ l.Nodup := by
  induction l with
  | nil => simp [allDistinct]
  | cons p ps ih => simp [allDistinct, ih]

/-- The first `n` entries of an array are distinct when equal entries have equal indices. -/
theorem nodup_take_iff {α : Type} {m : Nat} (v : Vector α m) (n : Nat) :
    (v.toList.take n).Nodup ↔ ∀ j k : Fin m, j.val < n → k.val < n → v[j] = v[k] → j = k := by
  rw [List.nodup_iff_injective_get]
  have hlen : (v.toList.take n).length = min n m := by simp
  constructor
  · intro h j k hj hk hv
    have hj' : j.val < (v.toList.take n).length := by omega
    have hk' : k.val < (v.toList.take n).length := by omega
    have hjk : (⟨j.val, hj'⟩ : Fin _) = ⟨k.val, hk'⟩ := h (by simpa using hv)
    exact Fin.ext (Fin.mk.inj hjk)
  · rintro h ⟨j, hj⟩ ⟨k, hk⟩ hv
    rw [hlen] at hj hk
    have := h ⟨j, by omega⟩ ⟨k, by omega⟩ (by simp only; omega) (by simp only; omega) (by simpa using hv)
    exact Fin.ext (Fin.mk.inj this)

/-- The pin map is valid exactly when reset reports no duplicate (10_state.md R43, 70_reset_and_hazards.md R342). -/
theorem cfgDuplicate_eq_false_iff (e : EffCfg) : cfgDuplicate e = false ↔ PinMapValid e := by
  rw [cfgDuplicate, Bool.not_eq_false', allDistinct_iff_nodup, livePins, List.nodup_append,
    nodup_take_iff, nodup_take_iff]
  refine and_congr Iff.rfl (and_congr Iff.rfl ⟨fun h k i hk hi => ?_, fun h a ha b hb => ?_⟩)
  · exact h _ ((mem_take_iff _ _ _).mpr ⟨k, hk, rfl⟩) _ ((mem_take_iff _ _ _).mpr ⟨i, hi, rfl⟩)
  · obtain ⟨k, hk, rfl⟩ := (mem_take_iff _ _ _).mp ha
    obtain ⟨i, hi, rfl⟩ := (mem_take_iff _ _ _).mp hb
    exact h k i hk hi

end Sys2Proof.Machine
end

