-- ==== Sys2Proof/Laws/Runs.lean ====
section
/-! SUPPORT. Runs of passes: their equations, what every run keeps, and which passes of a run are due. -/

namespace Sys2Proof.Machine

@[simp] theorem runPasses_nil (s : State) : runPasses [] s = s := rfl

@[simp] theorem runPasses_cons (p : PassIn) (ps : List PassIn) (s : State) :
    runPasses (p :: ps) s = runPasses ps (runPass p s) := rfl

@[simp] theorem runPasses_cfg (ps : List PassIn) (s : State) : (runPasses ps s).cfg = s.cfg := by
  induction ps generalizing s with
  | nil => rfl
  | cons p ps ih => rw [runPasses_cons, ih, runPass_cfg]

@[simp] theorem duePasses_nil (q last : Word) : duePasses q last [] = [] := rfl

theorem duePasses_of_due {q last : Word} {p : PassIn} (h : q.toNat ≤ (p.now - last).toNat) (ps : List PassIn) :
    duePasses q last (p :: ps) = p :: duePasses q p.now ps := by
  rw [duePasses, if_pos ((le_elapsed_iff _ _ _).mpr h)]

theorem duePasses_of_not_due {q last : Word} {p : PassIn} (h : ¬ q.toNat ≤ (p.now - last).toNat)
    (ps : List PassIn) : duePasses q last (p :: ps) = duePasses q last ps := by
  rw [duePasses, if_neg (fun hq => h ((le_elapsed_iff _ _ _).mp hq))]

/-- Each due pass is a pass of the run. -/
theorem mem_of_mem_duePasses {q last : Word} {p : PassIn} {ps : List PassIn} (h : p ∈ duePasses q last ps) :
    p ∈ ps := by
  induction ps generalizing last with
  | nil => cases h
  | cons p' ps ih =>
    unfold duePasses at h
    split at h
    · rcases List.mem_cons.mp h with rfl | h
      · exact List.mem_cons_self
      · exact List.mem_cons_of_mem _ (ih h)
    · exact List.mem_cons_of_mem _ (ih h)

end Sys2Proof.Machine
end

