-- ==== Sys2Proof/Tests/Slice0.lean ====
section
/-! SUPPORT. The model's own tests. Words are written out from 30_encoding.md R91 to R93; expected results are the
spec's vectors (95_test_vectors.md), computed there from its rules. Then the witnesses: for every statement with
hypotheses, a concrete state and operands that meet them, clause by clause. -/

namespace Sys2Proof.Tests

-- One theorem after the other: evaluations waiting for the kernel would each hold a thread.
set_option Elab.async false

open Sys2Proof.Machine

/-! ### Well-formed terms -/

/-- RD of each end of the unassigned numbers is ill-formed (20_memory.md R72). -/
theorem test_wf_refuses_unassigned_rd :
    (Instr.rd 0x0F#8).wf = false ∧ (Instr.rd 0x24#8).wf = false ∧ (Instr.rd 0x3F#8).wf = false ∧
    (Instr.rd 0x88#8).wf = false ∧ (Instr.rd 0xFF#8).wf = false := by decide

/-- RD of the assigned numbers next to them is well-formed, as is every other operand. -/
theorem test_wf_accepts_operands :
    (Instr.rd 0x0E#8).wf = true ∧ (Instr.rd 0x10#8).wf = true ∧ (Instr.rd 0x23#8).wf = true ∧
    (Instr.rd 0x40#8).wf = true ∧ (Instr.rd 0x87#8).wf = true ∧ (Instr.pack 31#5 0xFF#8).wf = true ∧
    (Instr.enc 0xFF#8).wf = true ∧ (Instr.tapp 0x00#8).wf = true := by decide

/-! ### Words written out from the encodings, one or more for every constructor -/

theorem test_decode_nop : decode 0b0000_0000000000000000000000000000#32 = .command .nop := by decide
theorem test_decode_pass : decode 0b0001_0000000000000000000000000000#32 = .command .pass := by decide
theorem test_decode_enc : decode 0b0010_00000000000000000000_01100001#32 = .command (.enc 0x61#8) := by decide
theorem test_decode_pack :
    decode 0b0011_000000000000000_00001_00000110#32 = .command (.pack 1#5 0x06#8) := by decide
theorem test_decode_pack_fields :
    decode 0b0011_000000000000000_10110_10010011#32 = .command (.pack 22#5 0x93#8) := by decide
theorem test_decode_flags_base : decode 0b0100_00000000000000000000000000_0_1#32 = .command (.flags 1#1 0#1) := by decide
theorem test_decode_flags_auto : decode 0b0100_00000000000000000000000000_1_0#32 = .command (.flags 0#1 1#1) := by decide
theorem test_decode_tclr : decode 0b0101_0000000000000000000000000000#32 = .command .tclr := by decide
theorem test_decode_tapp : decode 0b0110_00000000000000000000_01100100#32 = .command (.tapp 0x64#8) := by decide
theorem test_decode_tcommit : decode 0b0111_0000000000000000000000000000#32 = .command .tcommit := by decide
theorem test_decode_rd : decode 0b1000_00000000000000000000_01000010#32 = .command (.rd 0x42#8) := by decide

/-- The illegal words of the program P5 (95_test_vectors.md section 4) and their causes. -/
theorem test_decode_illegal :
    decode 0x9ABCDEF0#32 = .illegal .reservedOp ∧ decode 0xF0000000#32 = .illegal .reservedOp ∧
    decode 0x00000001#32 = .illegal .reservedBits ∧ decode 0x20000141#32 = .illegal .reservedBits ∧
    decode 0x30002000#32 = .illegal .reservedBits ∧ decode 0x40000004#32 = .illegal .reservedBits ∧
    decode 0x8000000F#32 = .illegal .badReg ∧ decode 0x80000088#32 = .illegal .badReg ∧
    decode 0x8000010F#32 = .illegal .reservedBits := by decide

/-- The word of the opcode table reaches the decoder, its bits numbered as the table numbers them. -/
theorem test_decode_table_word :
    decodeTableWord 32 0x30000106 = some (.pack 1#5 0x06#8) ∧ decodeTableWord 32 0x90000000 = none := by decide

/-! ### One step -/

/-- What a step gives, seen through `f`. -/
def seen {α : Type} (f : State → α) : Host.Outcome State Fault Refusal → Option α
  | .next s => some (f s)
  | .fault _ => none
  | .refused _ => none

/-- One word on CMD of a state. -/
def send (w : Nat) (s : State) : Host.Outcome State Fault Refusal := step (s.withFetchWord 32 w)

/-- The default PASS_IN of 95_test_vectors.md section 1, at the tick `now`. -/
def quiet (now : Nat) : PassIn where
  now := BitVec.ofNat 32 now
  wcValid := true
  wcHour := 12#8
  wcMin := 34#8
  wcSec := 0#8
  wcYday := 0#16
  vConn := false
  vRaw := 0#16
  rInt := 0#32
  rMsg := 0#32
  rGl := tabulate 16 fun _ => 0#32

/-- The reset state with one PASS_IN record ready. -/
def ready (p : PassIn) : State := { State.reset with passIn := [p] }

/-- The configuration TC2 of 95_test_vectors.md section 1. -/
def tc2 : Cfg := { tc1 with
  digitPin := #v[20, 3, 17, 9, 0, 0, 0, 0, 0, 0, 0, 0, 0, 0, 0, 0]
  segPin := #v[0, 5, 10, 22, 1, 14, 7, 23] }

/-- The staging buffer "HI" of the worked example of 48_host_commands.md R278. -/
def staged : State := { State.reset with
  stage := #v[0x48, 0x49, 0x20, 0x20, 0x20, 0x20, 0x20, 0x20, 0x20, 0x20, 0x20, 0x20, 0x20, 0x20, 0x20, 0x20]
  stageLen := 2#5 }

/-- V-HOST row 1. -/
theorem test_nop : seen (fun s => (s.res, s.status, s.muxIdx)) (send 0x00000000 State.reset) = some (0, 0, 0) := by
  decide +kernel
/-- V-ENC row 1. -/
theorem test_enc_folds : seen State.res (send 0x20000061 State.reset) = some 0x77#32 := by decide +kernel
/-- V-ENC row 11. -/
theorem test_enc_above_letters : seen State.res (send 0x2000007B { State.reset with res := 1#32 }) = some 0#32 := by
  decide +kernel
/-- V-PACK, TC1 row 1. -/
theorem test_pack : seen State.res (send 0x30000106 State.reset) = some 0x602#32 := by decide +kernel
/-- V-PACK, TC2 row 2. -/
theorem test_pack_scrambled : seen State.res (send 0x300002FF (State.resetWith { resetRecord with cfg := tc2 })) =
    some 0xC244A3#32 := by decide +kernel
/-- V-HOST row 2. -/
theorem test_flags_custom : seen State.flags (send 0x40000001 State.reset) = some 1#2 := by decide +kernel
/-- V-HOST row 3. -/
theorem test_flags_auto : seen State.flags (send 0x40000002 State.reset) = some 2#2 := by decide +kernel
/-- The worked example of 48_host_commands.md R274. -/
theorem test_tclr : seen (fun s => (s.stageLen, s.stage[0], s.custom[0])) (send 0x50000000 staged) =
    some (0, 0x20, 0x20) := by decide +kernel
/-- 48_host_commands.md R276. -/
theorem test_tapp : seen (fun s => (s.stageLen, s.stage[1], s.stage[2])) (send 0x60000064 staged) =
    some (3, 0x49, 0x64) := by decide +kernel
/-- The worked example of 48_host_commands.md R276: a full buffer. -/
theorem test_tapp_full : seen (fun s => (s.stageLen, s.stage[4])) (send 0x60000064 { staged with stageLen := 4#5 }) =
    some (4, 0x20) := by decide +kernel
/-- The worked example of 48_host_commands.md R278. -/
theorem test_tcommit : seen (fun s => (s.custom.toList.take 4, s.stageLen)) (send 0x70000000 staged) =
    some ([0x48, 0x49, 0x20, 0x20], 2) := by decide +kernel
/-- The worked example of 48_host_commands.md R280. -/
theorem test_rd_cell : seen State.res
    (send 0x80000042 { State.reset with buf := tabulate 16 fun k => { sym := BitVec.ofNat 8 (0x40 + k), dot := true } }) =
    some 0x142#32 := by decide +kernel
/-- 48_host_commands.md R280: RES is unchanged, the cause is 3. -/
theorem test_rd_unassigned :
    seen (fun s => (s.res, s.status)) (send 0x8000000F { State.reset with res := 7#32 }) = some (7, 0x301) := by
  decide +kernel
/-- V-MUX row 1, the first pass after reset: "12.34" is shown and digit 0 transmitted. -/
theorem test_pass_first : seen (fun s => (s.frame, s.buf[2], s.muxLast)) (send 0x10000000 (ready (quiet 0))) =
    some (0x006601, { sym := 0x32, dot := true }, 0) := by decide +kernel
/-- V-MODE row 6: entry to FLASH with the message "VFD". -/
theorem test_pass_message : seen (fun s => (s.mode, s.msgSel, s.buf[3].sym))
    (send 0x10000000 { ready { quiet 10500 with rMsg := 5#32 } with mode := .glitchIn, phaseEnd := 10500#32 }) =
    some (.flash, 1, 0x56) := by decide +kernel
/-- V-ENC row 13 and P5: the first cause is kept. -/
theorem test_illegal_keeps_first_cause :
    seen State.status (send 0x20000141 State.reset) = some 0x201#32 ∧
    seen State.status (send 0xF0000000 { State.reset with status := 0x201#32 }) = some 0x201#32 := by decide +kernel
/-- The configuration TC1 keeps the constraints of 41_encoder.md R112. -/
theorem test_tc1_well_formed : cfgWf tc1 = true := by decide +kernel

/-- A configuration whose CHAR_ROM gives the space a segment. -/
def badFont : Cfg := { tc1 with charRom := tabulate 256 fun _ => 1#8 }

/-- It is ill-formed (70_reset_and_hazards.md R342). -/
theorem test_bad_font_ill_formed : cfgWf badFont = false := by decide +kernel

/-- The clamps and the pin map do not enter well-formedness (70_reset_and_hazards.md R342). -/
theorem test_tc2_well_formed : cfgWf tc2 = true := test_tc1_well_formed

/-! ### Witnesses: encoding -/

theorem witness_DecodeEncodeRoundTrip : (Instr.rd 0x87#8).wf = true ∧ (Instr.pack 31#5 0xFF#8).wf = true := by decide

theorem witness_LegalWordIsItsEncoding :
    decode 0x80000087#32 = .command (.rd 0x87#8) ∧ decode 0x30001FFF#32 = .command (.pack 31#5 0xFF#8) := by decide

theorem witness_DecodeFollowsOpcodeMap :
    (0x80000024#32 &&& 0xFFFFFF00#32 = 0x80000000#32 ∧
      assigned ((0x80000024#32).extractLsb' 0 8) = false) ∧
    9 ≤ ((0x90000000#32) >>> 28).toNat := by decide

/-- One word a clause: opcode 9, a reserved bit of RD, an unassigned number at each end, RD of 0x87. -/
theorem witness_DecodeRunsTheOrderedTests :
    ((0x90000000#32) >>> 28).toNat = 9 ∧
    (((0x80000100#32) >>> 28).toNat = 8 ∧ 0x80000100#32 &&& 0x0FFFFF00#32 ≠ 0#32) ∧
    (((0x80000088#32) >>> 28).toNat = 8 ∧ 0x80000088#32 &&& 0x0FFFFF00#32 = 0#32 ∧
      0x88 ≤ (0x80000088#32).toNat % 256) ∧
    (((0x80000087#32) >>> 28).toNat = 8 ∧ 0x80000087#32 &&& 0x0FFFFF00#32 = 0#32 ∧
      ¬ ((0x80000087#32).toNat % 256 = 0x0F ∨
        (0x24 ≤ (0x80000087#32).toNat % 256 ∧ (0x80000087#32).toNat % 256 ≤ 0x3F) ∨
        0x88 ≤ (0x80000087#32).toNat % 256)) := by decide

/-! ### Witnesses: the step -/

theorem witness_StepRunsDecodedCommand :
    (State.reset.withFetchWord 32 0x30001FFF).port = [.command .host 0x30001FFF#32] ∧
    decode 0x30001FFF#32 = .command (.pack 31#5 0xFF#8) ∧ (Agent.host = .host → Instr.pack 31#5 0xFF#8 ≠ .pass) ∧
    (State.reset.withFetchWord 32 0x10000000).port = [.command .loop 0x10000000#32] ∧
    decode 0x10000000#32 = .command .pass ∧ (Agent.loop = .host → Instr.pass ≠ .pass) := by decide +kernel

/-- A state to which the agent `a` has sent the word `w`. -/
def sent (a : Agent) (w : Word) : State := { ready (quiet 0) with port := [.command a w] }

theorem witness_HostPassIsRefused :
    (sent .host 0x10000000#32).port = [.command .host 0x10000000#32] ∧ decode 0x10000000#32 = .command .pass ∧
    (sent .host 0x10000001#32).port = [.command .host 0x10000001#32] ∧ decode 0x10000001#32 ≠ .command .pass ∧
    (sent .loop 0x10000000#32).port = [.command .loop 0x10000000#32] := by decide +kernel

/-- I19 of 93_implementation_defined.md: PASS runs for the loop agent alone. -/
theorem test_pass_of_host_refused :
    step (sent .host 0x10000000#32) = .refused .hostPass ∧
    seen State.txCount (step (sent .loop 0x10000000#32)) = some 1#32 := ⟨rfl, by decide +kernel⟩

theorem witness_StepRecordsIllegalWord :
    (State.reset.withFetchWord 32 0x80000088).port = [.command .host 0x80000088#32] ∧
    decode 0x80000088#32 = .illegal .badReg := ⟨rfl, by decide⟩

theorem witness_IdlePortKeepsState : State.reset.port = [] := rfl

/-- A state to which RST arrives. -/
def resetting (c : Cfg) : State := { State.reset with port := [.reset { cfg := c, t0 := 1000#32, rRst := 7#32 }] }

theorem witness_StepTakesReset :
    (resetting tc2).port = [.reset { cfg := tc2, t0 := 1000#32, rRst := 7#32 }] ∧ cfgWf tc2 = true ∧
    cfgWf badFont = false := ⟨rfl, test_tc2_well_formed, test_bad_font_ill_formed⟩

theorem witness_NoArrivalStopsTheCore :
    (∀ ev ∈ State.reset.port.head?, arrivalWf ev = true) ∧
    (∀ ev ∈ (resetting tc2).port.head?, arrivalWf ev = true) := by
  refine ⟨fun _ h => (nomatch h), fun ev h => ?_⟩
  cases h
  exact test_tc2_well_formed

theorem witness_CommandsKeepConfiguration :
    (∀ r, (State.reset.withFetchWord 32 0x10000000).port.head? ≠ some (.reset r)) ∧
    ∃ t, step (State.reset.withFetchWord 32 0x10000000) = .next t :=
  ⟨fun _ h => (nomatch h), ⟨_, rfl⟩⟩

theorem witness_IllegalRecordIsSticky :
    let s := { State.reset.withFetchWord 32 0xF0000000 with status := 0x201#32 }
    (∀ r, s.port.head? ≠ some (.reset r)) ∧ (∃ t, step s = .next t) ∧
    statusIll s.status = true ∧ statusIllCause s.status ≠ 0#4 :=
  ⟨fun _ h => (nomatch h), ⟨_, rfl⟩, by decide, by decide⟩

theorem witness_HostCommandsKeepLoopState :
    (State.reset.withFetchWord 32 0x20000041).port = [.command .host 0x20000041#32] ∧
    ∃ t, step (State.reset.withFetchWord 32 0x20000041) = .next t := ⟨rfl, _, rfl⟩

theorem witness_CommandsIdempotent :
    Instr.rd 0x87#8 ≠ .pass ∧ (∀ b, Instr.rd 0x87#8 ≠ .tapp b) ∧ (Instr.rd 0x87#8).wf = true ∧
    ∃ t, exec (.rd 0x87#8) State.reset = .next t := ⟨by decide, fun _ h => (nomatch h), by decide, _, rfl⟩

/-! ### Witnesses: reset and the invariant -/

/-- The clamps' ends: no digit, more digits than the maximum (10_state.md R20). -/
theorem witness_EffectiveConfigurationValues :
    cfgWf { tc1 with n := 0#8, vDen := 0#16 } = true ∧ cfgWf { tc1 with n := 255#8, s := 255#8 } = true :=
  ⟨test_tc1_well_formed, test_tc1_well_formed⟩

theorem witness_ResetMeetsInvariant : cfgWf tc1 = true ∧ cfgWf tc2 = true :=
  ⟨test_tc1_well_formed, test_tc2_well_formed⟩

/-- The record of a reset at tick 0 with the feature enabled: the first flash is at 10000. -/
def enabled : ResetRecord := { resetRecord with cfg := { tc1 with autoEnReset := true } }

theorem witness_FirstPassAfterReset :
    resetRecord.cfg.autoEnReset = false ∧ (quiet 0).now = resetRecord.t0 ∧
    (State.resetWith enabled).nextFlash ≠ enabled.t0 ∧ (State.resetWith resetRecord).cfg.regPeriod ≠ 0#32 := by
  decide +kernel

/-- CHAR_ROM's part of well-formedness. -/
theorem charRomWf_of_cfgWf {c : Cfg} (h : cfgWf c = true) : charRomWf c.charRom c.charDef = true := by
  simp only [cfgWf, Bool.and_eq_true] at h
  exact h.1.1.1.1

/-- The state the invariant's witness uses: a reset under TC2, one PASS to come. -/
def scrambled : State := (State.resetWith { resetRecord with cfg := tc2 }).withFetchWord 32 0x10000000

theorem witness_EveryStepKeepsInvariant : CoreInv scrambled ∧ ∃ t, step scrambled = .next t :=
  ⟨⟨by decide +kernel, ⟨charRomWf_of_cfgWf test_tc2_well_formed, by decide +kernel⟩, by decide +kernel,
    by decide +kernel, by decide +kernel, by decide +kernel, by decide +kernel, by decide +kernel⟩, _, rfl⟩

/-! ### Witnesses: ENC, PACK and the display buffer -/

theorem witness_EncLooksUpFoldedSymbol :
    charRomWf State.reset.rom.charRom State.reset.rom.charDef = true ∧ 0xFF#8 ∉ State.reset.rom.charDef :=
  ⟨charRomWf_of_cfgWf test_tc1_well_formed, by decide +kernel⟩

/-- Sixteen digits, the most there can be. -/
def wide : State := State.resetWith { resetRecord with cfg := { tc1 with n := 16#8 } }

theorem witness_PackSetsItsLines : wide.cfg.nEff.toNat = 16 ∧ State.reset.cfg.nEff.toNat = 4 := by decide +kernel

theorem witness_PackRoundTripOnValidMap :
    CfgInv (effCfg tc2) ∧ PinMapValid (effCfg tc2) ∧ (3#5).toNat < (effCfg tc2).nEff.toNat := by decide +kernel

theorem witness_SetContentFollowsTheLoop : wide.nEff ≤ 16 := by decide +kernel

theorem witness_PlainTextStoredReversed :
    State.reset.nEff ≤ 16 ∧ ([0x61#8, 0x62#8, 0x63#8, 0x64#8] : Text).length ≤ State.reset.nEff ∧
    0x2E#8 ∉ ([0x61#8, 0x62#8, 0x63#8, 0x64#8] : Text) := by decide +kernel

theorem witness_OverflowingTextDiscarded :
    (scanCells State.reset.cfg.loneDot State.reset.nEff [0x41#8, 0x42#8, 0x43#8, 0x44#8]).length = State.reset.nEff ∧
    ([0x45#8] : Text).head? ≠ some 0x2E#8 := by decide +kernel

theorem witness_InlineDotExample : State.reset.nEff = 4 := by decide +kernel

/-! ### Witnesses: PASS, each clause at a boundary of its time gate -/

/-- A state in the mode `m` whose phase ends at 500, the last glitch text at 400, the last content at 400, the
flash due at 500, the regulator and the multiplexer last run at 400, with a pass at `now` to come. -/
def phase (m : Mode) (now : Nat) : State := { ready (quiet now) with
  mode := m, phaseEnd := 500#32, lastGlitch := 400#32, lastContent := 400#32, nextFlash := 500#32
  regLast := 400#32, muxLast := 400#32, flags := 2#2 }

/-- The same state under END_AT_PHASE with the feature off. -/
def cutShort (m : Mode) (now : Nat) : State :=
  let s := phase m now
  { s with flags := 0#2, cfg := { s.cfg with disablePolicy := .endAtPhase } }

theorem witness_BaseTextSelectsSource :
    wide.nEff ≤ 16 ∧ ({ wide with flags := 3#2 } : State).flags.getLsbD 0 = true ∧ 15 < wide.nEff ∧
    wide.flags.getLsbD 0 = false ∧ (quiet 0).wcValid = true ∧ ({ quiet 0 with wcValid := false } : PassIn).wcValid = false := by
  decide +kernel

theorem witness_BaseModeStage :
    ((phase .base 500).sample = quiet 500 ∧ (phase .base 500).flags = 2#2 ∧
      0 ≤ ((quiet 500).now - (phase .base 500).nextFlash).toInt) ∧
    ((cutShort .base 500).flags ≠ 2#2 ∧
      (cutShort .base 500).cfg.baseRefresh.toNat ≤ ((quiet 500).now - (cutShort .base 500).lastContent).toNat) ∧
    (¬ 0 ≤ ((quiet 499).now - (phase .base 499).nextFlash).toInt ∧
      ¬ (phase .base 499).cfg.baseRefresh.toNat ≤ ((quiet 499).now - (phase .base 499).lastContent).toNat) := by
  decide +kernel

theorem witness_GlitchInModeStage :
    ((phase .glitchIn 500).sample = quiet 500 ∧ (phase .glitchIn 500).mode = .glitchIn ∧
      0 ≤ ((quiet 500).now - (phase .glitchIn 500).phaseEnd).toInt ∧ (phase .glitchIn 500).cfg.msgCount ≠ 0#8) ∧
    ((cutShort .glitchIn 500).cfg.disablePolicy = .endAtPhase ∧ (cutShort .glitchIn 500).flags ≠ 2#2) ∧
    (¬ 0 ≤ ((quiet 450).now - (phase .glitchIn 450).phaseEnd).toInt ∧
      (phase .glitchIn 450).cfg.glitchFrame.toNat = ((quiet 450).now - (phase .glitchIn 450).lastGlitch).toNat) ∧
    ((phase .glitchIn 449).sample.now - (phase .glitchIn 449).lastGlitch).toNat = 49 := by decide +kernel

theorem witness_FlashModeStage :
    ((phase .flash 500).sample = quiet 500 ∧ (phase .flash 500).mode = .flash ∧
      0 ≤ ((quiet 500).now - (phase .flash 500).phaseEnd).toInt) ∧
    ((cutShort .flash 500).mode = .flash ∧ (cutShort .flash 500).cfg.disablePolicy = .endAtPhase) ∧
    ¬ 0 ≤ ((quiet 499).now - (phase .flash 499).phaseEnd).toInt := by decide +kernel

theorem witness_GlitchOutModeStage :
    ((phase .glitchOut 500).sample = quiet 500 ∧ (phase .glitchOut 500).mode = .glitchOut ∧
      0 ≤ ((quiet 500).now - (phase .glitchOut 500).phaseEnd).toInt) ∧
    ¬ 0 ≤ ((quiet 499).now - (phase .glitchOut 499).phaseEnd).toInt := by decide +kernel

theorem witness_GlitchTextDrawsFromAlphabet :
    wide.nEff ≤ 16 ∧ 15 < wide.nEff ∧ 0 < wide.rom.glitchAlphabet.length ∧
    (State.resetWith { resetRecord with cfg := { tc1 with glitchAlphabet := [] } }).rom.glitchAlphabet = [] := by
  decide +kernel

theorem witness_NextFlashWithinWindow :
    CfgInv (phase .glitchOut 500).cfg ∧ (phase .glitchOut 500).mode ≠ .base ∧
    (∃ t, exec .pass (phase .glitchOut 500) = .next t ∧ t.mode = .base) ∧
    (10000 ≤ 20000 ∧ (phase .glitchOut 500).cfg.flashMax.toNat = 20000) :=
  ⟨by decide +kernel, by decide +kernel, ⟨_, rfl, by decide +kernel⟩, by decide +kernel⟩

/-- Passes every 2000 ticks from `T0 = 0` on, the flags rewritten by the host on the way. -/
def cycleScript : List ScriptedPass :=
  [2000, 4000, 6000, 8000, 10000, 12000].map fun o => { offset := o, flags := BitVec.ofNat 2 (o / 2000), input := quiet o }

theorem witness_FlashCycleReachesBase :
    let s := phase .glitchIn 0
    s.mode = .glitchIn ∧ s.phaseEnd = 0#32 + s.cfg.glitchInDur ∧
    (s.cfg.glitchInDur.toNat + 2000 < 2 ^ 31 ∧ s.cfg.flashDur.toNat + 2000 < 2 ^ 31 ∧
      s.cfg.glitchOutDur.toNat + 2000 < 2 ^ 31) ∧
    CadenceFrom 0#32 2000 0 cycleScript ∧
    (∃ q ∈ cycleScript, s.cfg.glitchInDur.toNat + s.cfg.flashDur.toNat + s.cfg.glitchOutDur.toNat + 3 * 2000 < q.offset) ∧
    s.cfg.disablePolicy = .completeCycle := by
  refine ⟨rfl, by decide +kernel, by decide +kernel, ?_, by decide +kernel, by decide +kernel⟩
  simp only [cycleScript, List.map_cons, List.map_nil, CadenceFrom]
  decide

/-- A connected sample of the voltage (V-REG). -/
def sampled (now raw : Nat) : PassIn := { quiet now with vConn := true, vRaw := BitVec.ofNat 16 raw }

/-- V-REG rows 1 to 3, 6 and 7. -/
theorem witness_RegulatorMovesByOneStep :
    (ready (sampled 100 499)).sample = sampled 100 499 ∧
    ((sampled 99 0).now - State.reset.regLast).toNat < State.reset.cfg.regPeriod.toNat ∧
    ¬ ((sampled 100 0).now - State.reset.regLast).toNat < State.reset.cfg.regPeriod.toNat ∧
    (quiet 100).vConn = false ∧
    499 * State.reset.cfg.vNum.toNat < State.reset.cfg.vTarget.toNat * State.reset.cfg.vDen.toNat ∧
    500 * State.reset.cfg.vNum.toNat = State.reset.cfg.vTarget.toNat * State.reset.cfg.vDen.toNat ∧
    501 * State.reset.cfg.vNum.toNat > State.reset.cfg.vTarget.toNat * State.reset.cfg.vDen.toNat := by decide +kernel

/-- V-REG row 9 and program P2's disconnected tick; the passes at 99 and 150, whose samples are others, are no
ticks. -/
theorem witness_RegulatorMonotoneToMaximum :
    State.reset.duty.toNat ≤ State.reset.cfg.dutyMax.toNat ∧
    (499#16).toNat * State.reset.cfg.vNum.toNat < State.reset.cfg.vTarget.toNat * State.reset.cfg.vDen.toNat ∧
    duePasses State.reset.cfg.regPeriod State.reset.regLast
      [sampled 99 501, sampled 100 499, quiet 150, sampled 200 499] = [sampled 100 499, sampled 200 499] ∧
    (∀ p ∈ [sampled 100 499, sampled 200 499], p.vConn = true ∧ p.vRaw = 499#16) ∧
    duePasses State.reset.cfg.regPeriod State.reset.regLast [sampled 99 499, quiet 100] = [quiet 100] ∧
    (∀ p ∈ [quiet 100], p.vConn = false) := by decide +kernel

/-- A sample that differs from `quiet now` in every field but the time. -/
def noisy (now : Nat) : PassIn where
  now := BitVec.ofNat 32 now
  wcValid := false
  wcHour := 1#8
  wcMin := 2#8
  wcSec := 3#8
  wcYday := 4#16
  vConn := true
  vRaw := 5#16
  rInt := 6#32
  rMsg := 7#32
  rGl := tabulate 16 fun k => BitVec.ofNat 32 (k + 8)

/-- In FLASH before the phase's end, one tick before a tick of the regulator, only the time is read. -/
theorem witness_UnreadInputsHaveNoEffect :
    AgreeOnRead (phase .flash 499) (quiet 499) (noisy 499) ∧ quiet 499 ≠ noisy 499 :=
  ⟨⟨by decide +kernel, by decide +kernel, by decide +kernel, by decide +kernel, by decide +kernel,
    by decide +kernel⟩, by decide +kernel⟩

/-- On a return to BASE in clock mode with the sensor disconnected, `r_int` and the wall clock are read. -/
theorem witness_UnreadInputsHaveNoEffect_base :
    ReturnsToBase 500#32 (phase .glitchOut 500) ∧ WritesBase 500#32 (phase .glitchOut 500) ∧
    AgreeOnRead (phase .glitchOut 500) (quiet 500) { quiet 500 with rMsg := 7#32, vRaw := 5#16, rGl := (noisy 500).rGl } :=
  ⟨by decide +kernel, by decide +kernel, ⟨by decide +kernel, by decide +kernel, by decide +kernel, by decide +kernel,
    by decide +kernel, by decide +kernel⟩⟩

/-- On entry to FLASH at a tick, `r_msg` and `v_conn` are read. -/
theorem witness_UnreadInputsHaveNoEffect_flash :
    EntersFlash 500#32 (phase .glitchIn 500) ∧ RegulatorTicks 500#32 (phase .glitchIn 500) ∧
    AgreeOnRead (phase .glitchIn 500) (quiet 500) { noisy 500 with rMsg := 0#32, vConn := false } :=
  ⟨by decide +kernel, by decide +kernel, ⟨by decide +kernel, by decide +kernel, by decide +kernel, by decide +kernel,
    by decide +kernel, by decide +kernel⟩⟩

/-- When a glitch text is written on four digits, `r_gl[0]` to `r_gl[3]` are read. -/
theorem witness_UnreadInputsHaveNoEffect_glitch :
    WritesGlitch 450#32 (phase .glitchIn 450) ∧
    AgreeOnRead (phase .glitchIn 450) (quiet 450)
      { noisy 450 with rGl := tabulate 16 fun k => if k < 4 then 0#32 else 1#32 } :=
  ⟨by decide +kernel, ⟨by decide +kernel, by decide +kernel, by decide +kernel, by decide +kernel, by decide +kernel,
    by decide +kernel⟩⟩

theorem witness_MultiplexerAdvances :
    (phase .base 401).sample = quiet 401 ∧ 1 ≤ (phase .base 401).nEff ∧ (phase .base 401).nEff ≤ 16 ∧
    ((quiet 400).now - (phase .base 400).muxLast).toNat < (phase .base 400).cfg.refreshQ.toNat ∧
    ¬ ((quiet 401).now - (phase .base 401).muxLast).toNat < (phase .base 401).cfg.refreshQ.toNat := by decide +kernel

/-- The four passes of program P6, at consecutive ticks, with passes that are not due between them (V-MUX row 2)
and after them. -/
theorem witness_EveryDigitOncePerCycle :
    CfgInv State.reset.cfg ∧ State.reset.muxIdx.toNat < State.reset.nEff ∧
    (duePasses State.reset.cfg.refreshQ State.reset.muxLast
      [quiet 0, quiet 0, quiet 1, quiet 2, quiet 2, quiet 3, quiet 3]).length = State.reset.nEff ∧
    PinMapValid State.reset.cfg ∧ 3 < State.reset.nEff := by decide +kernel

theorem witness_PassWithNothingDue :
    let s := phase .glitchIn 400
    s.sample = quiet 400 ∧ s.mode = .glitchIn ∧ ((quiet 400).now - s.phaseEnd).toInt < 0 ∧
    ((quiet 400).now - s.lastGlitch).toNat < s.cfg.glitchFrame.toNat ∧
    ((quiet 400).now - s.regLast).toNat < s.cfg.regPeriod.toNat ∧
    ((quiet 400).now - s.muxLast).toNat < s.cfg.refreshQ.toNat := by decide +kernel

/-- The same in BASE. -/
theorem witness_PassWithNothingDue_base :
    let s := phase .base 400
    s.sample = quiet 400 ∧ s.mode = .base ∧ ¬ (s.flags = 2#2 ∧ 0 ≤ ((quiet 400).now - s.nextFlash).toInt) ∧
    ((quiet 400).now - s.lastContent).toNat < s.cfg.baseRefresh.toNat := by decide +kernel

/-- V-TIME rows 5 and 6: the greatest distance each clause speaks of. -/
theorem witness_TimePredicatesMeanDistance :
    (2 ^ 31 - 1 < 2 ^ 31 ∧ 0x7FFFFFFF#32 = 0#32 + BitVec.ofNat 32 (2 ^ 31 - 1)) ∧
    (0 < 2 ^ 31 ∧ 0x80000000#32 = 0#32 - BitVec.ofNat 32 (2 ^ 31)) := by decide

/-! ### Witnesses: host commands -/

theorem witness_NopChangesNothing :
    0x00000000#32 &&& 0xFFFFFFFF#32 = 0x00000000#32 ∧
    ((0x00000001#32) >>> 28).toNat = 0 ∧ (0x00000001#32).extractLsb' 0 28 ≠ 0#28 := by decide

theorem witness_TappAppendsOrDiscards :
    staged.nEff ≤ 16 ∧ ({ staged with stageLen := 3#5 } : State).stageLen.toNat < staged.nEff ∧
    staged.nEff ≤ ({ staged with stageLen := 4#5 } : State).stageLen.toNat := by decide +kernel

theorem witness_RdReadsRegisterMap :
    (0x24 ≤ (0x24#8).toNat ∧ (0x24#8).toNat ≤ 0x3F) ∧ 0x88 ≤ (0x88#8).toNat ∧
    State.reset.status.extractLsb' 8 4 = 0#4 := by decide +kernel

theorem witness_TextCommandsCommitText : wide.nEff ≤ 16 ∧ State.reset.nEff ≤ 16 := by decide +kernel

end Sys2Proof.Tests
end

/-! SUPPORT. What the decoder answers, test by test (30_encoding.md R94), and when a word selects a row of the
opcode map (R93). -/

namespace Sys2Proof.Laws

open Machine EncodingShape

/-! ### The fields of a word -/

theorem opField_toNat (w : Word) : (opField w).toNat = (w >>> 28).toNat := by
  have hw : w.toNat / 2 ^ 28 < 2 ^ 4 := by omega
  rw [opField, BitVec.extractLsb'_toNat, BitVec.toNat_ushiftRight, Nat.shiftRight_eq_div_pow, Nat.mod_eq_of_lt hw]

theorem byteField_toNat (w : Word) : (byteField w).toNat = w.toNat % 256 := by
  simp [byteField]

theorem opField_append_rest (w : Word) : opField w ++ w.extractLsb' 0 28 = w := by
  rw [opField, BitVec.extractLsb'_append_extractLsb'_eq_extractLsb' (by rfl)]
  simp

/-! ### The command a word names -/

/-- The operands of a command are the fields of the word that 30_encoding.md R94 names for it. -/
def OperandsFrom (w : Word) : Instr → Prop
  | .enc b => b = byteField w
  | .pack d m => d = digitField w ∧ m = byteField w
  | .flags c e => c = baseField w ∧ e = autoField w
  | .tapp b => b = byteField w
  | .rd b => b = byteField w
  | .nop | .pass | .tclr | .tcommit => True

/-- A word names the command that has its opcode and its operand fields, whatever its reserved field holds. -/
theorem commandOf_eq_some_iff (w : Word) (i : Instr) :
    commandOf w = some i ↔ (opField w).toNat = opcode i ∧ OperandsFrom w i := by
  constructor
  · unfold commandOf
    split <;> rintro ⟨⟩ <;> simp_all [opcode, OperandsFrom]
  · rintro ⟨hop, hargs⟩
    cases i <;> simp_all [commandOf, opcode, OperandsFrom]

/-- A word names no command exactly when its opcode is reserved (30_encoding.md R95). -/
theorem commandOf_eq_none_iff (w : Word) : commandOf w = none ↔ 9 ≤ (opField w).toNat := by
  unfold commandOf
  split <;> simp_all
  omega

theorem exists_commandOf {w : Word} (h : (opField w).toNat < 9) : ∃ i, commandOf w = some i := by
  rw [← Option.ne_none_iff_exists', Ne, commandOf_eq_none_iff]
  omega

/-- Of the commands that a word can name, only RD of an unassigned number is ill-formed (30_encoding.md R93). -/
theorem wf_iff_of_commandOf {w : Word} {i : Instr} (h : commandOf w = some i) :
    i.wf = true ↔ ¬ ((opField w).toNat = 8 ∧ assigned (byteField w) = false) := by
  obtain ⟨hop, hargs⟩ := (commandOf_eq_some_iff w i).mp h
  rw [hop]
  cases i <;> simp_all [Instr.wf, opcode, OperandsFrom]

/-! ### The tests of the decoder, in their order -/

theorem decode_reservedOp {w : Word} (h : 9 ≤ (opField w).toNat) : decode w = .illegal .reservedOp := by
  simp only [decode, (commandOf_eq_none_iff w).mpr h]

theorem decode_reservedBits {w : Word} (hop : (opField w).toNat < 9)
    (hrsv : w &&& reservedMask (opField w) ≠ 0#32) : decode w = .illegal .reservedBits := by
  obtain ⟨i, hi⟩ := exists_commandOf hop
  simp only [decode, hi, if_pos hrsv]

/-- With a defined opcode and a zero reserved field, only the command's own check is left. -/
theorem decode_of_reserved_zero {w : Word} {i : Instr} (hi : commandOf w = some i)
    (hrsv : w &&& reservedMask (opField w) = 0#32) :
    decode w = if i.wf then .command i else .illegal .badReg := by
  simp only [decode, hi, if_neg (not_not_intro hrsv)]

theorem decode_badReg {w : Word} (hop : (opField w).toNat = 8) (hrsv : w &&& reservedMask (opField w) = 0#32)
    (hreg : assigned (byteField w) = false) : decode w = .illegal .badReg := by
  have hi : commandOf w = some (.rd (byteField w)) := (commandOf_eq_some_iff _ _).mpr ⟨hop, rfl⟩
  rw [decode_of_reserved_zero hi hrsv, if_neg (by simp [Instr.wf, hreg])]

theorem decode_eq_command_iff (w : Word) (i : Instr) :
    decode w = .command i ↔
      commandOf w = some i ∧ w &&& reservedMask (opField w) = 0#32 ∧ i.wf = true := by
  constructor
  · unfold decode
    split
    · simp
    · next j hj =>
      split
      · simp
      · next hrsv =>
        split
        · next hwf =>
          rintro ⟨⟩
          exact ⟨hj, not_not.mp hrsv, hwf⟩
        · simp
  · rintro ⟨hi, hrsv, hwf⟩
    rw [decode_of_reserved_zero hi hrsv, if_pos hwf]

/-! ### The rows of the opcode map -/

/-- The mask of a row: the opcode field and the reserved field of the row's format (30_encoding.md R93). -/
def rowMask (op : BitVec 4) : Word := 0xF0000000#32 ||| reservedMask op

/-- The match of a row: its opcode, all other bits 0 (30_encoding.md R93). -/
def rowMatch (op : BitVec 4) : Word := op ++ 0#28

theorem and_opMask (w : Word) : w &&& 0xF0000000#32 = opField w ++ 0#28 :=
  calc w &&& 0xF0000000#32
      = (opField w ++ w.extractLsb' 0 28) &&& (BitVec.allOnes 4 ++ 0#28) := by rw [opField_append_rest]; rfl
    _ = opField w ++ 0#28 := by rw [BitVec.and_append, BitVec.and_allOnes, BitVec.and_zero]

theorem opField_rowMask (op : BitVec 4) : opField (rowMask op) = BitVec.allOnes 4 := by
  revert op
  decide

theorem rowMask_and_reservedMask (op : BitVec 4) : rowMask op &&& reservedMask op = reservedMask op := by
  revert op
  decide

theorem rowMatch_and_reservedMask (op : BitVec 4) : rowMatch op &&& reservedMask op = 0#32 := by
  revert op
  decide

/-- A word selects a row when it has the row's opcode and the reserved field of the row's format is zero. -/
theorem selects_row_iff (w : Word) (op : BitVec 4) :
    w &&& rowMask op = rowMatch op ↔ opField w = op ∧ w &&& reservedMask op = 0#32 := by
  constructor
  · intro h
    constructor
    · calc opField w
          = opField (w &&& rowMask op) := by
            rw [opField, opField, BitVec.extractLsb'_and, ← opField, ← opField, opField_rowMask, BitVec.and_allOnes]
        _ = op := by rw [h]; exact opField_append op 0#28
    · calc w &&& reservedMask op
          = w &&& rowMask op &&& reservedMask op := by rw [BitVec.and_assoc, rowMask_and_reservedMask]
        _ = 0#32 := by rw [h, rowMatch_and_reservedMask]
  · rintro ⟨hop, hrsv⟩
    rw [rowMask, BitVec.and_or_distrib_left, hrsv, BitVec.or_zero, and_opMask, hop, rowMatch]

/-- An opcode fits the opcode field, so it may be compared as a number or as a field. -/
theorem opField_eq_opcode_iff (w : Word) (i : Instr) :
    opField w = BitVec.ofNat 4 (opcode i) ↔ (opField w).toNat = opcode i := by
  have hlt : opcode i < 2 ^ 4 := by cases i <;> simp [opcode]
  rw [← BitVec.toNat_inj, BitVec.toNat_ofNat, Nat.mod_eq_of_lt hlt]

/-- A word decodes to a command exactly when it selects the command's row and holds its operands, for RD an
assigned number (30_encoding.md R93). -/
theorem decode_eq_command_iff_selects_row (w : Word) (i : Instr) :
    decode w = .command i ↔
      w &&& rowMask (BitVec.ofNat 4 (opcode i)) = rowMatch (BitVec.ofNat 4 (opcode i)) ∧
        OperandsFrom w i ∧ i.wf = true := by
  rw [decode_eq_command_iff, commandOf_eq_some_iff, selects_row_iff, opField_eq_opcode_iff]
  constructor
  · rintro ⟨⟨hop, hargs⟩, hrsv, hwf⟩
    rw [(opField_eq_opcode_iff w i).mpr hop] at hrsv
    exact ⟨⟨hop, hrsv⟩, hargs, hwf⟩
  · rintro ⟨⟨hop, hrsv⟩, hargs, hwf⟩
    rw [← (opField_eq_opcode_iff w i).mpr hop] at hrsv
    exact ⟨⟨hop, hargs⟩, hrsv, hwf⟩

/-! ### The tests as 30_encoding.md R94 writes them -/

/-- The second test with the mask of each format written out. -/
theorem and_reservedMask_ne_zero_iff (w : Word) {op : BitVec 4} (h : op.toNat < 9) :
    w &&& reservedMask op ≠ 0#32 ↔
      ((op.toNat = 0 ∨ op.toNat = 1 ∨ op.toNat = 5 ∨ op.toNat = 7) ∧ w &&& 0x0FFFFFFF#32 ≠ 0#32) ∨
      ((op.toNat = 2 ∨ op.toNat = 6 ∨ op.toNat = 8) ∧ w &&& 0x0FFFFF00#32 ≠ 0#32) ∨
      (op.toNat = 3 ∧ w &&& 0x0FFFE000#32 ≠ 0#32) ∨
      (op.toNat = 4 ∧ w &&& 0x0FFFFFFC#32 ≠ 0#32) := by
  rw [reservedMask]
  generalize op.toNat = n at h ⊢
  interval_cases n <;> simp

/-- The unassigned numbers of 20_memory.md R72. -/
theorem assigned_eq_false_iff (b : Byte) :
    assigned b = false ↔ b.toNat = 0x0F ∨ (0x24 ≤ b.toNat ∧ b.toNat ≤ 0x3F) ∨ 0x88 ≤ b.toNat := by
  revert b
  decide

end Sys2Proof.Laws

/-! PROOFS. The statements of 30_encoding.md about the opcode map (R93) and the decoder's tests (R94). -/

namespace Sys2Proof.Laws

open Machine EncodingShape

/-- Settles O3: each row is `decode_eq_command_iff_selects_row` at the row's command; the two illegal clauses are the
decoder's first and third test. -/
theorem decodeFollowsOpcodeMap : Obligations.DecodeFollowsOpcodeMap := by
  intro w
  have row := decode_eq_command_iff_selects_row w
  refine ⟨?nop, ?pass, ?enc, ?pack, ?flags, ?tclr, ?tapp, ?tcommit, ?rd, ?badReg, ?reservedOp⟩
  case nop | pass | tclr | tcommit =>
    simp only [row, opcode, OperandsFrom, Instr.wf, and_true]
    rfl
  case enc | tapp | pack | flags =>
    simp only [row, opcode, OperandsFrom, Instr.wf, and_true, exists_eq_right, exists_eq_right_right]
    rfl
  case rd =>
    simp only [row, opcode, OperandsFrom, Instr.wf, existsAndEq, true_and]
    rfl
  case badReg =>
    intro hrow hreg
    obtain ⟨hop, hrsv⟩ := (selects_row_iff w 8#4).mp hrow
    exact decode_badReg (by rw [hop]; rfl) (by rw [hop]; exact hrsv) hreg
  case reservedOp =>
    intro hop
    exact decode_reservedOp (by rwa [opField_toNat])

/-- Settles O4: the decoder's tests in their order, with the reserved fields and the unassigned numbers written out. -/
theorem decodeRunsTheOrderedTests : Obligations.DecodeRunsTheOrderedTests := by
  intro w op reservedSet number unassigned
  have hop : (opField w).toNat = op := opField_toNat w
  have hset (h : op < 9) : w &&& reservedMask (opField w) ≠ 0#32 ↔ reservedSet := by
    rw [and_reservedMask_ne_zero_iff w (hop ▸ h), hop]
  have hreg : assigned (byteField w) = false ↔ unassigned := by
    rw [assigned_eq_false_iff, byteField_toNat]
  refine ⟨?reservedOp, ?reservedBits, ?badReg, ?command⟩
  case reservedOp => exact fun h => decode_reservedOp (hop ▸ h)
  case reservedBits => exact fun h hrsv => decode_reservedBits (hop ▸ h) ((hset h).mpr hrsv)
  case badReg =>
    intro h hrsv hun
    have hzero := not_not.mp (mt (hset (by omega)).mp hrsv)
    exact decode_badReg (hop.trans h) hzero (hreg.mpr hun)
  case command =>
    intro h hrsv hun
    have hzero := not_not.mp (mt (hset h).mp hrsv)
    obtain ⟨i, hi⟩ := exists_commandOf (w := w) (hop ▸ h)
    have hwf : i.wf = true := (wf_iff_of_commandOf hi).mpr (by rwa [hop, hreg])
    rw [(decode_eq_command_iff w i).mpr ⟨hi, hzero, hwf⟩]
    obtain ⟨hopcode, hargs⟩ := (commandOf_eq_some_iff w i).mp hi
    rw [← hop, hopcode]
    cases i with
    | nop | pass | tclr | tcommit => rfl
    | enc b | tapp b | rd b =>
      obtain rfl : b = byteField w := hargs
      rfl
    | pack | flags =>
      obtain ⟨rfl, rfl⟩ := hargs
      rfl

end Sys2Proof.Laws

/-! PROOFS. The statements of 42_frame_packer.md about PACK (R131 to R133) and the bytes of a TX event (R134). -/

namespace Sys2Proof.Laws

open Machine

/-- PACK completes with its frame, zero-extended, in RES (42_frame_packer.md R136). -/
theorem exec_pack (d : BitVec 5) (m : Byte) (s : State) :
    exec (.pack d m) s = .next (s.setRes ((pack s.cfg d m).setWidth 32)) := rfl

/-- Zero-extension keeps the set bits of a frame and adds none. -/
theorem getLsbD_zeroExtended (f : Frame) (p : Nat) : (f.setWidth 32).getLsbD p = f.getLsbD p := by
  rw [BitVec.getLsbD_setWidth, Bool.and_eq_right_iff_imp, decide_eq_true_eq]
  intro hp
  have := BitVec.lt_of_getLsbD hp
  omega

/-- Settles O27: RES holds the zero-extended frame, whose bits `pack_getLsbD` gives. -/
theorem packSetsItsLines : Obligations.PackSetsItsLines := by
  intro d m s hn
  refine ⟨_, exec_pack d m s, rfl, fun p => ?_⟩
  rw [setRes_res, getLsbD_zeroExtended]
  exact pack_getLsbD s.cfg d m p hn

/-- Bit `j` of byte `k` is output `16 - 8k + j`; so output `p` is read back at the byte and the bit of its distance
from output 23 (42_frame_packer.md R134). -/
theorem frameByte_at_output (f : Frame) {p : Nat} (hp : p < 24) :
    (frameByte f ((23 - p) / 8)).getLsbD (7 - (23 - p) % 8) = f.getLsbD p := by
  have hpos : 16 - 8 * ((23 - p) / 8) + (7 - (23 - p) % 8) = p := by omega
  rw [frameByte_getLsbD f _ _ (by omega), hpos]

/-- Which of a TX event's three bytes is `FB[k]` (42_frame_packer.md R134). -/
theorem txEvent_byte (f : Frame) {k : Nat} (hk : k < 3) :
    (if k = 0 then (txEvent f).fb0 else if k = 1 then (txEvent f).fb1 else (txEvent f).fb2) = frameByte f k := by
  interval_cases k <;> rfl

/-- Settles O29: the byte of output `p` is chosen by `txEvent_byte` and read by `frameByte_at_output`; the second form
is the definition of each byte. -/
theorem frameBytesArePhysicalLayout : Obligations.FrameBytesArePhysicalLayout := by
  intro f ev
  refine ⟨fun p hp => ?output, fun j hj => ⟨?fb0, ?fb1, ?fb2⟩, rfl⟩
  case output => rw [txEvent_byte f (by omega), frameByte_at_output f hp]
  case fb0 => exact frameByte_getLsbD f 0 j hj
  case fb1 => exact frameByte_getLsbD f 1 j hj
  case fb2 => exact (frameByte_getLsbD f 2 j hj).trans (congrArg f.getLsbD (Nat.zero_add j))

end Sys2Proof.Laws

/-! PROOFS. The statement of 43_display_buffer.md that `set_content` is the source's index loop (R152, R154). -/

namespace Sys2Proof.Laws

open Machine

/-- One turn of the scan on the byte at hand: a lone '.' is dropped or taken after `LONE_DOT`, and a '.' right after a
taken symbol folds into its cell (43_display_buffer.md R151, R152). -/
theorem scanCells_cons (lone : LoneDot) (room : Nat) (c : Byte) (rest : Text) :
    scanCells lone (room + 1) (c :: rest) =
      if fold c = dotCode ∧ lone = .drop then scanCells lone (room + 1) rest
      else if rest.head? = some dotCode then { sym := fold c, dot := true } :: scanCells lone room rest.tail
      else { sym := fold c, dot := false } :: scanCells lone room rest := by
  cases rest with
  | nil => simp [scanCells]
  | cons d rest => simp [scanCells]

/-- A scan with no room or no text left takes no cell. -/
theorem scanCells_eq_nil (lone : LoneDot) {room : Nat} {t : Text} (h : t = [] ∨ room = 0) :
    scanCells lone room t = [] := by
  rcases h with rfl | rfl
  · cases room <;> simp only [scanCells]
  · simp only [scanCells]

/-- The loop's look-ahead asks whether the text from index `j` on begins with '.'. -/
theorem head?_drop_eq_dot_iff (t : Text) (j : Nat) :
    (t.drop j).head? = some dotCode ↔ j < t.length ∧ t.getD j 0#8 = dotCode := by
  rw [List.head?_drop, List.getElem?_eq_some_iff, ← exists_prop]
  exact exists_congr fun hj => by rw [List.getD_eq_getElem t _ hj]

/-- One turn of the loop, while text and room are left (43_display_buffer.md R152). -/
theorem scanLoop_turn (lone : LoneDot) (n : Nat) (t : Text) (fuel i : Nat) (cells : List Cell)
    (hi : i < t.length) (hroom : cells.length < n) :
    scanLoop lone n t (fuel + 1) i cells =
      if fold (t.getD i 0#8) = dotCode ∧ lone = .drop then scanLoop lone n t fuel (i + 1) cells
      else if (t.drop (i + 1)).head? = some dotCode then
        scanLoop lone n t fuel (i + 2) (cells ++ [{ sym := fold (t.getD i 0#8), dot := true }])
      else scanLoop lone n t fuel (i + 1) (cells ++ [{ sym := fold (t.getD i 0#8), dot := false }]) := by
  simp only [head?_drop_eq_dot_iff]
  exact if_pos ⟨hi, hroom⟩

/-- The loop of R152 at index `i` has yet to append the scan of the text from `i` on, in the room that is left; one unit
of fuel per byte is enough. -/
theorem scanLoop_eq_append_scanCells (lone : LoneDot) (n : Nat) (t : Text) (fuel i : Nat) (cells : List Cell)
    (hfuel : t.length ≤ i + fuel) :
    scanLoop lone n t fuel i cells = cells ++ scanCells lone (n - cells.length) (t.drop i) := by
  induction fuel generalizing i cells with
  | zero =>
    have hend : t.drop i = [] := List.drop_eq_nil_of_le hfuel
    rw [scanLoop, scanCells_eq_nil lone (.inl hend), List.append_nil]
  | succ fuel ih =>
    by_cases hturn : i < t.length ∧ cells.length < n
    case neg =>
      have hend : t.drop i = [] ∨ n - cells.length = 0 := by rw [List.drop_eq_nil_iff]; omega
      rw [scanLoop, if_neg hturn, scanCells_eq_nil lone hend, List.append_nil]
    case pos =>
      obtain ⟨hi, hroom⟩ := hturn
      obtain ⟨room, hr⟩ : ∃ room, n - cells.length = room + 1 := ⟨n - cells.length - 1, by omega⟩
      have hcell (cell : Cell) : n - (cells ++ [cell]).length = room := by
        rw [List.length_append, List.length_singleton]; omega
      have hbyte : t.drop i = t.getD i 0#8 :: t.drop (i + 1) := by
        rw [List.getD_eq_getElem t _ hi, List.drop_eq_getElem_cons hi]
      rw [scanLoop_turn lone n t fuel i cells hi hroom, hr, hbyte, scanCells_cons, List.tail_drop]
      split_ifs with hlone hdot
      · rw [ih _ _ (by omega), hr]
      · rw [ih _ _ (by omega), hcell, List.append_assoc, List.singleton_append]
      · rw [ih _ _ (by omega), hcell, List.append_assoc, List.singleton_append]

/-- The whole loop is the whole scan (43_display_buffer.md R152). -/
theorem scanLoop_eq_scanCells (lone : LoneDot) (n : Nat) (t : Text) :
    scanLoop lone n t t.length 0 [] = scanCells lone n t :=
  scanLoop_eq_append_scanCells lone n t t.length 0 [] (by omega)

/-- A cell of the scan padded with blanks holds no lowercase letter (43_display_buffer.md R152). -/
theorem scanCells_getD_folded (lone : LoneDot) (n : Nat) (t : Text) (j : Nat) :
    isLowerCode ((scanCells lone n t).getD j blankCell).sym.toNat = false := by
  by_cases hj : j < (scanCells lone n t).length
  · rw [List.getD_eq_getElem _ _ hj]
    exact scanCells_folded lone n t _ (List.getElem_mem hj)
  · rw [List.getD_eq_default _ _ (by omega)]
    decide

/-- Settles O31: the loop is the scan (`scanLoop_eq_scanCells`), the live cells are the padded scan reversed, and the
others are kept. -/
theorem setContentFollowsTheLoop : Obligations.SetContentFollowsTheLoop := by
  intro t s _ cells u
  have hcells : cells = scanCells s.cfg.loneDot s.nEff t := scanLoop_eq_scanCells s.cfg.loneDot s.nEff t
  refine ⟨rfl, fun k hlive => ?live, fun k hbeyond => contentCells_beyond _ _ t s.buf k k.isLt hbeyond⟩
  case live =>
    have hk : u.buf[k] = cells.getD (s.nEff - 1 - k.val) blankCell := by
      rw [hcells]
      exact contentCells_live _ _ t s.buf k k.isLt hlive
    refine ⟨hk, ?_⟩
    rw [hk, hcells]
    exact of_decide_eq_false (scanCells_getD_folded s.cfg.loneDot s.nEff t _)

end Sys2Proof.Laws

/-! PROOFS. The statement of 44_multiplexer.md about the multiplexer stage of a pass (R170, R172). -/

namespace Sys2Proof.Laws

open Machine

/-- The mode and regulator stages leave the multiplexer's gate as it is (44_multiplexer.md R170). -/
theorem muxDue_after_stages (now : Word) (p : PassIn) (s : State) :
    muxDue now (regStage p (modeStage p s)) = muxDue now s := by
  simp only [muxDue, regStage_cfg, modeStage_cfg, regStage_muxLast, modeStage_muxLast]

/-- The mode and regulator stages leave the next index as it is (44_multiplexer.md R172). -/
theorem nextMuxIdx_after_stages (p : PassIn) (s : State) :
    nextMuxIdx (regStage p (modeStage p s)) = nextMuxIdx s := by
  simp only [nextMuxIdx, State.nEff, regStage_cfg, modeStage_cfg, regStage_muxIdx, modeStage_muxIdx]

/-- The frame sent after the mode and regulator stages shows the cell the mode stage left (44_multiplexer.md R172). -/
theorem muxFrame_after_stages (p : PassIn) (s : State) :
    muxFrame (regStage p (modeStage p s)) =
      pack s.cfg (s.muxIdx.setWidth 5)
        (cellMask s.rom ((modeStage p s).buf[s.muxIdx.toNat]'s.muxIdx.isLt)) := by
  simp only [muxFrame, regStage_cfg, modeStage_cfg, regStage_rom, modeStage_rom, regStage_muxIdx, modeStage_muxIdx,
    regStage_buf]

/-- With at most 16 digits the next index fits its register (44_multiplexer.md R172). -/
theorem nextMuxIdx_toNat (s : State) (hpos : 1 ≤ s.nEff) (hmax : s.nEff ≤ 16) :
    (nextMuxIdx s).toNat = (s.muxIdx.toNat + 1) % s.nEff := by
  have hlt : (s.muxIdx.toNat + 1) % s.nEff < s.nEff := Nat.mod_lt _ hpos
  rw [nextMuxIdx, BitVec.toNat_ofNat, Nat.mod_eq_of_lt (by omega)]

/-- A pass at which the multiplexer is not due ends with the regulator stage (44_multiplexer.md R170). -/
theorem runPass_mux_not_due (p : PassIn) (s : State) (h : muxDue p.now s = false) :
    runPass p s = regStage p (modeStage p s) := by
  rw [runPass, muxStage_not_due _ _ ((muxDue_after_stages _ p s).trans h)]

/-- A pass at which the multiplexer is due advances it after the other two stages (44_multiplexer.md R172). -/
theorem runPass_mux_due (p : PassIn) (s : State) (h : muxDue p.now s = true) :
    runPass p s =
      { (regStage p (modeStage p s)).emitTx (muxFrame (regStage p (modeStage p s))) with
        muxIdx := nextMuxIdx s, muxLast := p.now } := by
  rw [runPass, muxStage_due _ _ ((muxDue_after_stages _ p s).trans h), nextMuxIdx_after_stages]

/-- The frame a due pass sends: the cell at `MUX_IDX`, as the pass leaves it, on digit `MUX_IDX`
(44_multiplexer.md R172). -/
theorem runPass_frame_of_mux_due (p : PassIn) (s : State) (h : muxDue p.now s = true) :
    (runPass p s).frame =
      pack s.cfg (s.muxIdx.setWidth 5) (cellMask s.rom ((runPass p s).buf[s.muxIdx.toNat]'s.muxIdx.isLt)) := by
  have hsent : (runPass p s).frame = muxFrame (regStage p (modeStage p s)) := by
    rw [runPass_mux_due p s h, emitTx_frame]
  simp only [hsent, muxFrame_after_stages, runPass_buf]

/-- The event a due pass makes presents the frame it leaves in FRAME (44_multiplexer.md R172). -/
theorem runPass_tx_of_mux_due (p : PassIn) (s : State) (h : muxDue p.now s = true) :
    (runPass p s).tx = s.tx ++ [txEvent (runPass p s).frame] := by
  rw [runPass_mux_due p s h]
  simp

/-- The counter after a due pass (44_multiplexer.md R172). -/
theorem runPass_txCount_of_mux_due (p : PassIn) (s : State) (h : muxDue p.now s = true) :
    (runPass p s).txCount = s.txCount + 1#32 := by
  rw [runPass_mux_due p s h]
  simp

/-- Settles O47: sampling PASS_IN and the first two stages leave the multiplexer's registers alone, so its gate on the
state before the pass decides between `runPass_mux_not_due` and `runPass_mux_due`. -/
theorem multiplexerAdvances : Obligations.MultiplexerAdvances := by
  rintro s p rfl hpos hmax
  have hgate : muxDue s.sample.now s.dropSample = true ↔
      s.cfg.refreshQ.toNat ≤ (s.sample.now - s.muxLast).toNat := by
    rw [muxDue_iff, dropSample_cfg, dropSample_muxLast]
  refine ⟨_, exec_pass s, ?_⟩
  split
  case isTrue hearly =>
    have hnot : muxDue s.sample.now s.dropSample = false := by
      rw [← Bool.not_eq_true, hgate]
      omega
    rw [runPass_mux_not_due _ _ hnot]
    simp
  case isFalse hlate =>
    have hdue : muxDue s.sample.now s.dropSample = true := hgate.mpr (by omega)
    have hn : s.dropSample.nEff = s.nEff := congrArg (·.nEff.toNat) (dropSample_cfg s)
    refine ⟨?idx, ?last, ?count, ?event, _, _, rfl, rfl, ?frame⟩
    case idx =>
      rw [runPass_mux_due _ _ hdue, nextMuxIdx_toNat _ (hn ▸ hpos) (hn ▸ hmax), hn, dropSample_muxIdx]
    case last => rw [runPass_mux_due _ _ hdue]
    case count => rw [runPass_txCount_of_mux_due _ _ hdue, dropSample_txCount]
    case event => rw [runPass_tx_of_mux_due _ _ hdue, dropSample_tx]
    case frame =>
      have hframe := runPass_frame_of_mux_due _ _ hdue
      simp only [dropSample_cfg, dropSample_rom, dropSample_muxIdx] at hframe
      exact hframe

end Sys2Proof.Laws

/-! PROOFS. The statements of 45_mode_machine.md about the texts the mode stage writes (R191, R195) and about when
NEXT_FLASH moves (R196, R201). -/

namespace Sys2Proof.Laws

open Machine

/-! ### The base content -/

/-- In custom mode the base content is the live part of CUSTOM (45_mode_machine.md R191). -/
theorem baseText_of_custom (p : PassIn) {s : State} (h : baseIsCustom s.flags = true) :
    baseText p s = s.custom.toList.take s.nEff := by
  rw [baseText, if_pos h]

/-- In clock mode the base content is the formatter's text, or the error text (45_mode_machine.md R191). -/
theorem baseText_of_clock (p : PassIn) {s : State} (h : baseIsCustom s.flags = false) :
    baseText p s =
      if p.wcValid then formatTime s.rom.fmtTime p.wcHour p.wcMin p.wcSec p.wcYday else s.rom.errText := by
  rw [baseText, if_neg (by simp [h])]

/-- Settles O35: one equation of `baseText` for each base mode; in custom mode `N_eff` bytes can be taken because
CUSTOM holds 16. -/
theorem baseTextSelectsSource : Obligations.BaseTextSelectsSource := by
  intro p s hmax
  refine ⟨fun hcustom => ?custom, fun hclock hvalid => ?time, fun hclock hinvalid => ?error⟩
  case custom =>
    rw [baseText_of_custom p hcustom]
    refine ⟨by simpa using hmax, fun k hk => ?_⟩
    rw [List.getElem?_take_of_lt hk, Vector.getElem?_toList]
    exact Vector.getElem?_eq_getElem k.isLt
  case time => rw [baseText_of_clock p hclock, if_pos hvalid]
  case error => rw [baseText_of_clock p hclock, if_neg (by simp [hinvalid])]

/-! ### The glitch text -/

theorem glitchByte_nil (p : PassIn) (j : Nat) : glitchByte [] p j = 0x20#8 := rfl

/-- The index is below the alphabet's length, so the default of the list access is not read (45_mode_machine.md R195). -/
theorem glitchByte_of_nonempty {alphabet : Text} (h : 0 < alphabet.length) (p : PassIn) (j : Fin 16) :
    glitchByte alphabet p j.val =
      alphabet[p.rGl[j].toNat % alphabet.length]'(Nat.mod_lt _ h) := by
  have hword : p.rGl[j.val]?.getD 0#32 = p.rGl[j] := by simp
  rw [glitchByte, if_neg (by omega), hword, List.getD_eq_getElem _ _ (Nat.mod_lt _ h)]

theorem glitchText_length (p : PassIn) (s : State) : (glitchText p s).length = s.nEff := by
  simp [glitchText]

theorem glitchText_getElem? (p : PassIn) (s : State) {j : Nat} (h : j < s.nEff) :
    (glitchText p s)[j]? = some (glitchByte s.rom.glitchAlphabet p j) := by
  simp [glitchText, h]

/-- Settles O40: each live byte is `glitchByte`, which is a space for the empty alphabet and an entry of any other. -/
theorem glitchTextDrawsFromAlphabet : Obligations.GlitchTextDrawsFromAlphabet := by
  refine fun p s _ => ⟨glitchText_length p s, fun j hj => ?_⟩
  rw [glitchText_getElem? p s hj]
  refine ⟨fun hempty => ?space, fun hnonempty => ?entry⟩
  case space => rw [hempty, glitchByte_nil]
  case entry => rw [glitchByte_of_nonempty hnonempty]

/-! ### The flash interval -/

/-- The interval lies in the window, both ends included (45_mode_machine.md R196). -/
theorem flashInterval_mem_window {lo hi : Word} (h : lo.toNat ≤ hi.toNat) (r : Word) :
    lo.toNat ≤ flashInterval lo hi r ∧ flashInterval lo hi r ≤ hi.toNat := by
  have hmod : r.toNat % (hi.toNat - lo.toNat + 1) < hi.toNat - lo.toNat + 1 := Nat.mod_lt _ (by omega)
  rw [flashInterval]
  omega

/-- The random word `k - lo` gives the interval `k` of the window (45_mode_machine.md R196). -/
theorem flashInterval_of_distance {lo hi : Word} {k : Nat} (hlo : lo.toNat ≤ k) (hhi : k ≤ hi.toNat) :
    flashInterval lo hi (BitVec.ofNat 32 (k - lo.toNat)) = k := by
  have hword : (BitVec.ofNat 32 (k - lo.toNat)).toNat = k - lo.toNat := by
    rw [BitVec.toNat_ofNat, Nat.mod_eq_of_lt (by omega)]
  rw [flashInterval, hword, Nat.mod_eq_of_lt (by omega)]
  omega

/-! ### When the mode stage schedules the next flash -/

/-- BASE schedules no flash, whatever it writes (45_mode_machine.md R198, R201). -/
theorem stageBase_nextFlash (p : PassIn) (s : State) : (stageBase p s).nextFlash = s.nextFlash := by
  unfold stageBase
  split_ifs
  · exact writeGlitch_nextFlash _ p
  · exact writeBase_nextFlash s p
  · rfl

/-- The stage's result `t` is `return_to_base`, or it stays outside BASE with the schedule kept
(45_mode_machine.md R198, R201). -/
def ReturnsOrKeepsSchedule (p : PassIn) (s t : State) : Prop :=
  t = returnToBase p s ∨ (t.mode ≠ .base ∧ t.nextFlash = s.nextFlash)

theorem stageGlitchIn_returnsOrKeepsSchedule (p : PassIn) {s : State} (h : s.mode ≠ .base) :
    ReturnsOrKeepsSchedule p s (stageGlitchIn p s) := by
  unfold stageGlitchIn
  split_ifs
  · exact .inl rfl
  · exact .inr ⟨by simp, by simp⟩
  · exact .inr ⟨h, rfl⟩
  · exact .inr ⟨h, rfl⟩

theorem stageFlash_returnsOrKeepsSchedule (p : PassIn) {s : State} (h : s.mode ≠ .base) :
    ReturnsOrKeepsSchedule p s (stageFlash p s) := by
  unfold stageFlash
  split_ifs
  · exact .inl rfl
  · exact .inr ⟨by simp, by simp⟩
  · exact .inr ⟨h, rfl⟩

theorem stageGlitchOut_returnsOrKeepsSchedule (p : PassIn) {s : State} (h : s.mode ≠ .base) :
    ReturnsOrKeepsSchedule p s (stageGlitchOut p s) := by
  unfold stageGlitchOut
  split_ifs
  · exact .inl rfl
  · exact .inr ⟨h, rfl⟩
  · exact .inr ⟨h, rfl⟩

theorem modeStage_nextFlash_of_base (p : PassIn) {s : State} (h : s.mode = .base) :
    (modeStage p s).nextFlash = s.nextFlash := by
  simp only [modeStage, h, stageBase_nextFlash]

theorem modeStage_returnsOrKeepsSchedule (p : PassIn) {s : State} (h : s.mode ≠ .base) :
    ReturnsOrKeepsSchedule p s (modeStage p s) := by
  cases hmode : s.mode with
  | base => exact absurd hmode h
  | glitchIn => simpa only [modeStage, hmode] using stageGlitchIn_returnsOrKeepsSchedule p h
  | flash => simpa only [modeStage, hmode] using stageFlash_returnsOrKeepsSchedule p h
  | glitchOut => simpa only [modeStage, hmode] using stageGlitchOut_returnsOrKeepsSchedule p h

/-- Outside a return to BASE the schedule is kept (45_mode_machine.md R201). -/
theorem modeStage_nextFlash_of_no_return (p : PassIn) (s : State)
    (h : ¬ (s.mode ≠ .base ∧ (modeStage p s).mode = .base)) : (modeStage p s).nextFlash = s.nextFlash := by
  by_cases hbase : s.mode = .base
  · exact modeStage_nextFlash_of_base p hbase
  · rcases modeStage_returnsOrKeepsSchedule p hbase with hreturn | ⟨-, hkept⟩
    · exact absurd ⟨hbase, by rw [hreturn, returnToBase_mode]⟩ h
    · exact hkept

/-- A return to BASE takes the next flash time from `r_int` (45_mode_machine.md R196). -/
theorem modeStage_nextFlash_of_return (p : PassIn) {s : State} (h : s.mode ≠ .base)
    (hbase : (modeStage p s).mode = .base) :
    (modeStage p s).nextFlash = flashTime p.now s.cfg.flashMin s.cfg.flashMax p.rInt := by
  rcases modeStage_returnsOrKeepsSchedule p h with hreturn | ⟨hstays, -⟩
  · rw [hreturn, returnToBase_nextFlash]
  · exact absurd hbase hstays

/-- Settles O42: the other two stages of a pass leave MODE and NEXT_FLASH alone, so the mode stage decides; the window
is that of `flashInterval`. -/
theorem nextFlashWithinWindow : Obligations.NextFlashWithinWindow := by
  rintro s ⟨-, -, -, -, hwindow, -⟩
  refine ⟨_, exec_pass s, fun hkeep => ?kept, fun hleft hbase => ?rescheduled, fun k hlo hhi => ?reached⟩
  case kept =>
    rw [runPass_mode, ← dropSample_mode s] at hkeep
    rw [runPass_nextFlash, modeStage_nextFlash_of_no_return _ _ hkeep, dropSample_nextFlash]
  case rescheduled =>
    rw [runPass_mode] at hbase
    have hnext := modeStage_nextFlash_of_return s.sample (dropSample_mode s ▸ hleft) hbase
    rw [dropSample_cfg] at hnext
    obtain ⟨hlo, hhi⟩ := flashInterval_mem_window hwindow s.sample.rInt
    exact ⟨_, hlo, hhi, rfl, (runPass_nextFlash _ _).trans hnext⟩
  case reached => exact ⟨_, flashInterval_of_distance hlo hhi⟩

end Sys2Proof.Laws

/-! PROOFS. The statement of 46_regulator.md about one pass of the regulator (R231 to R234). -/

namespace Sys2Proof.Laws

open Machine

/-- The mode stage leaves the regulator's gate as it is (46_regulator.md R231). -/
theorem regDue_after_modeStage (now : Word) (p : PassIn) (s : State) :
    regDue now (modeStage p s) = regDue now s := by
  simp only [regDue, modeStage_cfg, modeStage_regLast]

/-- The mode stage writes TIME_ERR alone in STATUS, so V_DISC stays (45_mode_machine.md R194). -/
theorem modeStage_vDisc (p : PassIn) (s : State) :
    statusVDisc (modeStage p s).status = statusVDisc s.status :=
  modeStage_status_getLsbD p s 1 (by decide)

/-- A pass at which the regulator is not due leaves its registers alone (46_regulator.md R231). -/
theorem runPass_reg_not_due (p : PassIn) (s : State) (h : regDue p.now s = false) :
    (runPass p s).regLast = s.regLast ∧ (runPass p s).duty = s.duty ∧
      statusVDisc (runPass p s).status = statusVDisc s.status := by
  have hstage := regStage_not_due p (modeStage p s) ((regDue_after_modeStage _ p s).trans h)
  simp only [runPass_regLast, runPass_duty, runPass_status, hstage, modeStage_regLast, modeStage_duty,
    modeStage_vDisc, and_self]

/-- A tick with the sensor disconnected marks it in V_DISC and holds the duty (46_regulator.md R234). -/
theorem runPass_reg_disconnected (p : PassIn) (s : State) (h : regDue p.now s = true) (hc : p.vConn = false) :
    (runPass p s).regLast = p.now ∧ statusVDisc (runPass p s).status = true ∧ (runPass p s).duty = s.duty := by
  have hstage := regStage_disconnected p (modeStage p s) ((regDue_after_modeStage _ p s).trans h) hc
  simp only [runPass_regLast, runPass_duty, runPass_status, hstage, modeStage_duty, putVDisc_vDisc, and_self]

/-- A tick with the sensor connected clears V_DISC and applies the control law (46_regulator.md R232). -/
theorem runPass_reg_connected (p : PassIn) (s : State) (h : regDue p.now s = true) (hc : p.vConn = true) :
    (runPass p s).regLast = p.now ∧ statusVDisc (runPass p s).status = false ∧
      (runPass p s).duty = nextDuty s.cfg p.vRaw s.duty := by
  have hstage := regStage_connected p (modeStage p s) ((regDue_after_modeStage _ p s).trans h) hc
  simp only [runPass_regLast, runPass_duty, runPass_status, hstage, modeStage_cfg, modeStage_duty, putVDisc_vDisc,
    and_self]

/-- Settles O44: sampling PASS_IN leaves the regulator's gate and registers alone, so the three cases of a pass,
`runPass_reg_not_due`, `runPass_reg_disconnected` and `runPass_reg_connected`, apply to the state before it; the last
gives `nextDuty`, whose three branches are the three comparisons. -/
theorem regulatorMovesByOneStep : Obligations.RegulatorMovesByOneStep := by
  rintro s _ rfl
  have hgate : regDue s.sample.now s.dropSample = true ↔
      s.cfg.regPeriod.toNat ≤ (s.sample.now - s.regLast).toNat := by
    rw [regDue_iff, dropSample_cfg, dropSample_regLast]
  refine ⟨_, exec_pass s, ?_⟩
  split
  case isTrue hearly =>
    have hnot : regDue s.sample.now s.dropSample = false := by
      rw [← Bool.not_eq_true, hgate]
      omega
    simpa using runPass_reg_not_due _ _ hnot
  case isFalse hlate =>
    have hdue : regDue s.sample.now s.dropSample = true := hgate.mpr (by omega)
    cases hc : s.sample.vConn
    case false =>
      obtain ⟨hlast, hdisc, hduty⟩ := runPass_reg_disconnected _ _ hdue hc
      exact ⟨hlast, hdisc, fun _ => hduty.trans (dropSample_duty s), nofun⟩
    case true =>
      obtain ⟨hlast, hdisc, hduty⟩ := runPass_reg_connected _ _ hdue hc
      rw [dropSample_cfg, dropSample_duty] at hduty
      rw [hduty]
      refine ⟨hlast, hdisc, nofun, fun _ => ⟨fun hbelow => ?below, fun habove => ?above, fun hequal => ?equal⟩⟩
      case below => exact_mod_cast nextDuty_below _ _ _ hbelow
      case above => exact nextDuty_above _ _ _ habove
      case equal => exact nextDuty_equal _ _ _ hequal

end Sys2Proof.Laws

/-! PROOFS. The statement of 48_host_commands.md about NOP (R270). -/

namespace Sys2Proof.Laws

open Machine EncodingShape

theorem exec_nop (s : State) : exec .nop s = .next s := rfl

/-- The row of NOP tests every bit, so the all-zero word alone selects it (30_encoding.md R93). -/
theorem selects_nop_row_iff (w : Word) : w &&& rowMask 0#4 = rowMatch 0#4 ↔ w = 0#32 := by
  have hmask : rowMask 0#4 = BitVec.allOnes 32 := rfl
  have hmatch : rowMatch 0#4 = 0#32 := rfl
  rw [hmask, hmatch, BitVec.and_allOnes]

theorem decode_eq_nop_iff (w : Word) : decode w = .command .nop ↔ w = 0#32 := by
  rw [decode_eq_command_iff_selects_row, ← selects_nop_row_iff]
  simp only [opcode, OperandsFrom, Instr.wf, and_true]

/-- A word of opcode 0 other than zero has a bit set in the reserved field (30_encoding.md R94). -/
theorem decode_reservedBits_of_op_zero {w : Word} (hop : opField w = 0#4) (hne : w ≠ 0#32) :
    decode w = .illegal .reservedBits := by
  refine decode_reservedBits (by rw [hop]; decide) fun hrsv => hne ?_
  rw [hop] at hrsv
  exact (selects_nop_row_iff w).mp ((selects_row_iff w 0#4).mpr ⟨hop, hrsv⟩)

/-- Settles O52: the zero word is the only one that decodes to NOP (`decode_eq_nop_iff`), whose meaning answers the
state it is given; every other word of opcode 0 fails the decoder's second test. -/
theorem nopChangesNothing : Obligations.NopChangesNothing := by
  refine ⟨fun s => ⟨exec_nop s, ?zeroRuns⟩, fun w hmatch => ?zeroDecodes, fun w hop hrest => ?reserved⟩
  case zeroRuns => rw [runWord_command ((decode_eq_nop_iff 0#32).mpr rfl), exec_nop]
  case zeroDecodes =>
    have hzero : w = 0#32 := (BitVec.and_allOnes (x := w)).symm.trans hmatch
    exact (decode_eq_nop_iff w).mpr hzero
  case reserved =>
    have hfield : opField w = 0#4 := BitVec.eq_of_toNat_eq ((opField_toNat w).trans hop)
    refine decode_reservedBits_of_op_zero hfield ?_
    rintro rfl
    exact hrest rfl

end Sys2Proof.Laws

/-! PROOFS. The statement of 60_exceptions.md about the words that complete and the one that is refused (R307, I19). -/

namespace Sys2Proof.Laws

open Machine

/-- No word its agent may issue stops the CORE, legal or not (60_exceptions.md R300, R307). -/
theorem step_completes_of_mayIssue {s : State} {a : Agent} {w : Word} {rest : List PortEvent}
    (hport : s.port = .command a w :: rest) (hissue : mayIssue a w = true) : ∃ t, step s = .next t := by
  rw [step_command hport, runCommand_of_mayIssue hissue]
  exact runWord_completes w _

/-- Settles O9: PASS is the one word the host may not issue, and the loop agent may issue any; every word that may be
issued completes (`step_completes_of_mayIssue`). -/
theorem hostPassIsRefused : Obligations.HostPassIsRefused := by
  refine fun s w rest => ⟨fun hhost => ⟨fun hpass => ?pass, fun hother => ?other⟩, fun hloop => ?loop⟩
  case pass => rw [step_command hhost, runCommand_host_pass hpass]
  case other => exact step_completes_of_mayIssue hhost ((mayIssue_host w).mpr hother)
  case loop => exact step_completes_of_mayIssue hloop (mayIssue_loop w)

end Sys2Proof.Laws

/-! PROOFS. The statements of 30_encoding.md about the round trip of encoder and decoder (R91 to R95), sample words
(R91), assembler lines (R97, R98) and the register numbers (20_memory.md R72). -/

namespace Sys2Proof.Laws

open Machine EncodingShape

/-! ### The shape of a word, command by command -/

theorem encodingShape (i : Instr) : Statement i := by
  cases i with
  | nop => exact EncodingShape.nop
  | pass => exact EncodingShape.pass
  | enc b => exact EncodingShape.enc b
  | pack d m => exact EncodingShape.pack d m
  | flags c e => exact EncodingShape.flags c e
  | tclr => exact EncodingShape.tclr
  | tapp b => exact EncodingShape.tapp b
  | tcommit => exact EncodingShape.tcommit
  | rd b => exact EncodingShape.rd b

/-- The low bits of a word are those of its operand field. -/
theorem extract_operand (op : BitVec 4) {n k : Nat} (x : BitVec n) (h : k + n = 28) {lo len : Nat}
    (hlo : lo + len ≤ n) :
    (op ++ ((0#k ++ x).cast h)).extractLsb' lo len = x.extractLsb' lo len := by
  rw [BitVec.extractLsb'_append_eq_of_add_le (by omega), BitVec.extractLsb'_cast,
    BitVec.extractLsb'_append_eq_of_add_le hlo]

/-- The operand fields of a command's word hold its operands (30_encoding.md R92). -/
theorem operandsFrom_encode (i : Instr) : OperandsFrom (encode i) i := by
  have low {op : BitVec 4} (b : Byte) : (op ++ ((0#20 ++ b).cast rfl) : Word).extractLsb' 0 8 = b :=
    (extract_operand op b rfl (by decide)).trans BitVec.extractLsb'_eq_self
  cases i with
  | nop | pass | tclr | tcommit => trivial
  | enc b => exact (low b).symm
  | tapp b => exact (low b).symm
  | rd b => exact (low b).symm
  | pack d m =>
    constructor
    · exact ((extract_operand 3#4 (d ++ m) rfl (by decide)).trans BitVec.extractLsb'_append_eq_left).symm
    · exact ((extract_operand 3#4 (d ++ m) rfl (by decide)).trans BitVec.extractLsb'_append_eq_right).symm
  | flags c e =>
    constructor
    · exact ((extract_operand 4#4 (e ++ c) rfl (by decide)).trans BitVec.extractLsb'_append_eq_right).symm
    · exact ((extract_operand 4#4 (e ++ c) rfl (by decide)).trans BitVec.extractLsb'_append_eq_left).symm

/-- Settles O1: the command's word has its opcode, a zero reserved field (`encodingShape`) and its operands
(`operandsFrom_encode`), which is what the decoder tests. -/
theorem decodeEncodeRoundTrip : Obligations.DecodeEncodeRoundTrip := by
  intro i hwf
  obtain ⟨hop, hrsv⟩ := encodingShape i
  exact (decode_eq_command_iff _ _).mpr ⟨(commandOf_eq_some_iff _ _).mpr ⟨hop, operandsFrom_encode i⟩, hrsv, hwf⟩

/-! ### A legal word is determined by its opcode and its operands -/

/-- A word whose reserved field covers bits `n` to 27 and is zero is its opcode, zeros and its operand field
(30_encoding.md R91). -/
theorem append_operand_of_reserved_zero {n k : Nat} (w mask : Word) (h : k + n = 28)
    (hmask : ∀ j : Fin 32, n ≤ j.val → j.val < 28 → mask.getLsbD j.val = true) (hzero : w &&& mask = 0#32) :
    opField w ++ ((0#k ++ w.extractLsb' 0 n).cast h) = w := by
  apply BitVec.eq_of_getLsbD_eq
  intro j hj
  rw [BitVec.getLsbD_append]
  by_cases hop : 28 ≤ j
  · rw [if_neg (by omega), opField, BitVec.getLsbD_extractLsb']
    simp [show 28 + (j - 28) = j by omega, show j - 28 < 4 by omega]
  · rw [if_pos (by omega), BitVec.getLsbD_cast, BitVec.getLsbD_append]
    by_cases hn : j < n
    · simp [hn]
    · have hbit : (w &&& mask).getLsbD j = false := by rw [hzero, BitVec.getLsbD_zero]
      rw [BitVec.getLsbD_and, hmask ⟨j, hj⟩ (by simp only; omega) (by simp only; omega), Bool.and_true] at hbit
      simp [hn, hbit]

/-- Each format has one word for an opcode and operands: its reserved field covers the bits between them
(30_encoding.md R91). -/
theorem encode_eq_of_operands {w : Word} {i : Instr} (hop : opField w = BitVec.ofNat 4 (opcode i))
    (hrsv : w &&& reservedMask (BitVec.ofNat 4 (opcode i)) = 0#32) (hargs : OperandsFrom w i) : encode i = w := by
  cases i with
  | nop | pass | tclr | tcommit =>
    have hw := append_operand_of_reserved_zero (n := 0) (k := 28) w 0x0FFFFFFF#32 rfl (by decide) hrsv
    rw [hop, BitVec.extractLsb'_eq_zero] at hw
    exact hw
  | enc b | tapp b | rd b =>
    have hw := append_operand_of_reserved_zero (n := 8) (k := 20) w 0x0FFFFF00#32 rfl (by decide) hrsv
    rw [hop] at hw
    obtain rfl : b = byteField w := hargs
    exact hw
  | pack d m =>
    have hw := append_operand_of_reserved_zero (n := 13) (k := 15) w 0x0FFFE000#32 rfl (by decide) hrsv
    obtain ⟨rfl, rfl⟩ := hargs
    have hfields : digitField w ++ byteField w = w.extractLsb' 0 13 :=
      BitVec.extractLsb'_append_extractLsb'_eq_extractLsb' rfl
    rw [hop, ← hfields] at hw
    exact hw
  | flags c e =>
    have hw := append_operand_of_reserved_zero (n := 2) (k := 26) w 0x0FFFFFFC#32 rfl (by decide) hrsv
    obtain ⟨rfl, rfl⟩ := hargs
    have hfields : autoField w ++ baseField w = w.extractLsb' 0 2 :=
      BitVec.extractLsb'_append_extractLsb'_eq_extractLsb' rfl
    rw [hop, ← hfields] at hw
    exact hw

/-- Settles O2: a word that decodes to a command passed the decoder's tests, so opcode, zero reserved field and operands
give it back (`encode_eq_of_operands`). -/
theorem legalWordIsItsEncoding : Obligations.LegalWordIsItsEncoding := by
  intro w i hdecode
  obtain ⟨hrow, hargs, hwf⟩ := (decode_eq_command_iff_selects_row w i).mp hdecode
  obtain ⟨hop, hrsv⟩ := (selects_row_iff w _).mp hrow
  exact ⟨hwf, encode_eq_of_operands hop hrsv hargs⟩

/-! ### Register numbers, sample words and assembler lines -/

/-- The number of a register names it, the arrays element by element (20_memory.md R72). -/
theorem regOf_regNumber (r : Reg) : regOf (regNumber r) = some r := by
  cases r with
  | buf k | custom k | stage k | digitPin k | segPin k =>
    revert k
    decide
  | _ => rfl

/-- Settles O5: the unassigned numbers are those of `assigned_eq_false_iff`; the map is read back by
`regOf_regNumber`. -/
theorem registerNumbersAssigned : Obligations.RegisterNumbersAssigned := by
  refine ⟨fun b => ?_, regOf_regNumber⟩
  rw [assigned_eq_false_iff, ← BitVec.toNat_inj]
  rfl

/-- Settles O6: the seven legal words are the encodings of their commands, the last has a reserved opcode. -/
theorem sampleWordsDecode : Obligations.SampleWordsDecode := by
  have legal := decodeEncodeRoundTrip
  exact ⟨legal .nop rfl, legal .pass rfl, legal (.enc 0x61#8) rfl, legal (.pack 1#5 0x06#8) rfl,
    legal (.flags 1#1 0#1) rfl, legal (.tapp 0x64#8) rfl, legal (.rd 0x42#8) rfl, decode_reservedOp (by decide)⟩

/-- Settles O7: the five lines of text are evaluated; TEXT and RDBUF are the definition of `assembleLine`. -/
theorem assemblerLinesAssemble : Obligations.AssemblerLinesAssemble := by
  refine ⟨?_, ?_, ?_, ?_, ?_, fun t => rfl, fun k hk => if_pos hk⟩
  all_goals decide +kernel

end Sys2Proof.Laws

/-! SUPPORT. Once for every command and every arrival, what it can make of the state (48_host_commands.md,
60_exceptions.md R302, 70_reset_and_hazards.md R340). -/

namespace Sys2Proof.Laws

open Machine

/-- What a word on CMD other than PASS makes of the state: one case per command, the illegal word last. -/
inductive HostEffect (s : State) : State → Prop
  | nothing : HostEffect s s
  | result (v : Word) : HostEffect s (s.setRes v)
  | flags (c e : BitVec 1) : HostEffect s (s.setFlags c e)
  | cleared : HostEffect s { s with stageLen := 0#5, stage := tabulate 16 fun _ => 0x20#8 }
  | appended (b : Byte) : HostEffect s (appendStaged b s)
  | committed : HostEffect s { s with custom := committedText s }
  | illegal (c : IllegalCause) : HostEffect s (raiseIllegal c s)

theorem exec_enc (b : Byte) (s : State) :
    exec (.enc b) s = .next (s.setRes ((encodeSymbol s.rom b).setWidth 32)) := rfl

theorem exec_flags (c e : BitVec 1) (s : State) : exec (.flags c e) s = .next (s.setFlags c e) := rfl

theorem exec_tclr (s : State) :
    exec .tclr s = .next { s with stageLen := 0#5, stage := tabulate 16 fun _ => 0x20#8 } := rfl

theorem exec_tapp (b : Byte) (s : State) : exec (.tapp b) s = .next (appendStaged b s) := rfl

theorem exec_tcommit (s : State) : exec .tcommit s = .next { s with custom := committedText s } := rfl

/-- RD of an assigned number (48_host_commands.md R280). -/
theorem exec_rd_assigned {b : Byte} {r : Reg} (h : regOf b = some r) (s : State) :
    exec (.rd b) s = .next (s.setRes (readReg s r)) := by
  simp only [exec, execRd, h]

/-- RD of an unassigned number, run as a term (48_host_commands.md R280; log 10). -/
theorem exec_rd_unassigned {b : Byte} (h : regOf b = none) (s : State) :
    exec (.rd b) s = .next (raiseIllegal .badReg s) := by
  simp only [exec, execRd, h]

/-- Every command but PASS has one of the effects listed. -/
theorem hostEffect_of_exec {i : Instr} {s t : State} (hi : i ≠ .pass) (h : exec i s = .next t) : HostEffect s t := by
  cases i with
  | pass => exact absurd rfl hi
  | nop =>
    cases h
    exact .nothing
  | enc b =>
    cases h
    exact .result _
  | pack d m =>
    cases h
    exact .result _
  | flags c e =>
    cases h
    exact .flags c e
  | tclr =>
    cases h
    exact .cleared
  | tapp b =>
    cases h
    exact .appended b
  | tcommit =>
    cases h
    exact .committed
  | rd b =>
    cases hr : regOf b with
    | some r =>
      rw [exec_rd_assigned hr] at h
      cases h
      exact .result _
    | none =>
      rw [exec_rd_unassigned hr] at h
      cases h
      exact .illegal _

/-- A word on CMD has one of the effects listed, or it is PASS. -/
theorem runWord_cases {w : Word} {s t : State} (h : runWord w s = .next t) :
    HostEffect s t ∨ (decode w = .command .pass ∧ t = runPass s.sample s.dropSample) := by
  cases hw : decode w with
  | illegal c =>
    rw [runWord_illegal hw] at h
    cases h
    exact .inl (.illegal c)
  | command i =>
    rw [runWord_command hw] at h
    by_cases hi : i = .pass
    · subst hi
      cases h
      exact .inr ⟨rfl, rfl⟩
    · exact .inl (hostEffect_of_exec hi h)

/-- Everything a step that answers a next state can do: nothing on an idle port, a host effect or a pass on a word,
the reset state on RST (20_memory.md R77). -/
theorem step_cases {s t : State} (h : step s = .next t) :
    (s.port = [] ∧ t = s) ∨
    (∃ a w rest, s.port = .command a w :: rest ∧ HostEffect { s with port := rest } t) ∨
    (∃ w rest, s.port = .command .loop w :: rest ∧
      t = runPass ({ s with port := rest } : State).sample ({ s with port := rest } : State).dropSample) ∨
    (∃ r rest, s.port = .reset r :: rest ∧ cfgWf r.cfg = true ∧
      t = State.takeReset { s with port := rest } r) := by
  cases hport : s.port with
  | nil =>
    rw [step_idle hport, runWord_command ((decode_eq_nop_iff 0#32).mpr rfl), exec_nop] at h
    cases h
    exact .inl ⟨rfl, rfl⟩
  | cons ev rest =>
    cases ev with
    | command a w =>
      rw [step_command hport] at h
      obtain ⟨hissue, hrun⟩ := runCommand_eq_next h
      rcases runWord_cases hrun with heffect | ⟨hpass, ht⟩
      · exact .inr (.inl ⟨a, w, rest, rfl, heffect⟩)
      · cases a with
        | loop => exact .inr (.inr (.inl ⟨w, rest, rfl, ht⟩))
        | host => exact absurd hpass ((mayIssue_host w).mp hissue)
    | reset r =>
      rw [step_reset hport, runReset] at h
      split at h
      · next hwf =>
        cases h
        exact .inr (.inr (.inr ⟨r, rest, rfl, hwf, rfl⟩))
      · cases h

/-- Appending a byte writes the staging buffer alone (48_host_commands.md R276). -/
theorem appendStaged_form (b : Byte) (s : State) :
    appendStaged b s =
      { s with stage := (appendStaged b s).stage, stageLen := (appendStaged b s).stageLen } := by
  unfold appendStaged
  split <;> rfl

/-- No effect of a host's word touches what only PASS or only RST may change (10_state.md R42). -/
theorem hostEffect_frame {s t : State} (h : HostEffect s t) : SameLoopState s t ∧ SameConfig s t := by
  cases h with
  | illegal c => simp [SameLoopState, SameConfig]
  | appended b =>
    rw [appendStaged_form]
    simp [SameLoopState, SameConfig]
  | _ => simp [SameLoopState, SameConfig]

/-- A pass writes no register of the configuration and neither of its two flags (10_state.md R42). -/
theorem runPass_sameConfig (p : PassIn) (s : State) : SameConfig s (runPass p s.dropSample) := by
  refine ⟨by simp, by simp, ?clamp, ?dup⟩
  case clamp => exact (runPass_status_getLsbD p _ 3 (by decide) (by decide)).trans (by simp [statusCfgClamp])
  case dup => exact (runPass_status_getLsbD p _ 4 (by decide) (by decide)).trans (by simp [statusCfgDup])

/-- A pass leaves ILL as it was (60_exceptions.md R302). -/
theorem runPass_ill (p : PassIn) (s : State) : statusIll (runPass p s).status = statusIll s.status :=
  runPass_status_getLsbD p s 0 (by decide) (by decide)

/-- A pass leaves the cause recorded (60_exceptions.md R302). -/
theorem runPass_illCause (p : PassIn) (s : State) :
    statusIllCause (runPass p s).status = statusIllCause s.status := by
  apply BitVec.eq_of_getLsbD_eq
  intro j _
  rw [statusIllCause_getLsbD, statusIllCause_getLsbD, runPass_status_getLsbD p s _ (by omega) (by omega)]

end Sys2Proof.Laws

/-! PROOFS. The statements about one step: what runs (20_memory.md R75, R77), what an illegal word does
(60_exceptions.md R300 to R303), who may change what (10_state.md R42). -/

namespace Sys2Proof.Laws

open Machine

/-- Settles O8: the premise on PASS is what `mayIssue` asks of the agent. -/
theorem stepRunsDecodedCommand : Obligations.StepRunsDecodedCommand := by
  intro s a w rest i hport hdecode hagent
  have hissue : mayIssue a w = true := by
    cases a with
    | loop => exact mayIssue_loop w
    | host => exact (mayIssue_host w).mpr fun h => hagent rfl (Decoded.command.inj (hdecode.symm.trans h))
  rw [step_command hport, runCommand_of_mayIssue hissue, runWord_command hdecode]

/-- The code of each cause (60_exceptions.md R301). -/
theorem causeCode_toNat (c : IllegalCause) :
    (causeCode c).toNat = match c with
      | .reservedOp => 1
      | .reservedBits => 2
      | .badReg => 3 := by
  cases c <;> rfl

/-- Settles O10: either agent may issue an illegal word, and `raiseIllegal` writes STATUS as `statusAfterIllegal` says. -/
theorem stepRecordsIllegalWord : Obligations.StepRecordsIllegalWord := by
  intro s a w rest c hport hdecode
  have hissue : mayIssue a w = true := by
    cases a with
    | loop => exact mayIssue_loop w
    | host => exact (mayIssue_host w).mpr (by simp [hdecode])
  refine ⟨raiseIllegal c { s with port := rest }, ?runs, rfl, ?ill, ?cause, ?others⟩
  case runs => rw [step_command hport, runCommand_of_mayIssue hissue, runWord_illegal hdecode]
  case ill => exact statusAfterIllegal_ill c s.status
  case cause =>
    have hcause := congrArg BitVec.toNat (statusAfterIllegal_illCause c s.status)
    rw [apply_ite BitVec.toNat, causeCode_toNat] at hcause
    exact hcause
  case others =>
    intro j hj hout
    exact (statusAfterIllegal_getLsbD c s.status j hout).trans (if_neg hj)

/-- Settles O11: the idle port reads the zero word, which is NOP. -/
theorem idlePortKeepsState : Obligations.IdlePortKeepsState := by
  intro s hport
  rw [step_idle hport, runWord_command ((decode_eq_nop_iff 0#32).mpr rfl), exec_nop]

/-- Settles O12: the two clauses are the two branches of `runReset`. -/
theorem stepTakesReset : Obligations.StepTakesReset := by
  intro s r rest hport
  rw [step_reset hport]
  refine ⟨fun hwf => ?taken, fun hwf => ?refused⟩
  case taken =>
    rw [runReset, if_pos hwf]
    rfl
  case refused => rw [runReset, if_neg (by simp [hwf])]

/-- Settles O13: an idle port is NOP, a word its agent may issue completes (`step_completes_of_mayIssue`), and a
well-formed record is taken. -/
theorem noArrivalStopsTheCore : Obligations.NoArrivalStopsTheCore := by
  intro s harrival
  cases hport : s.port with
  | nil => exact ⟨s, idlePortKeepsState s hport⟩
  | cons ev rest =>
    have hwf : arrivalWf ev = true := harrival ev (by rw [hport]; rfl)
    cases ev with
    | command a w => exact step_completes_of_mayIssue hport hwf
    | reset r => exact ⟨_, (stepTakesReset s r rest hport).1 hwf⟩

/-- Settles O14: without RST a step is idle, a host effect or a pass, and none of the three touches the configuration. -/
theorem commandsKeepConfiguration : Obligations.CommandsKeepConfiguration := by
  intro s t hport hstep
  rcases step_cases hstep with ⟨-, rfl⟩ | ⟨a, w, rest, -, heffect⟩ | ⟨w, rest, -, rfl⟩ | ⟨r, rest, hreset, -⟩
  case inl => exact ⟨rfl, rfl, rfl, rfl⟩
  case inr.inl => exact (hostEffect_frame heffect).2
  case inr.inr.inl => exact runPass_sameConfig _ { s with port := rest }
  case inr.inr.inr => exact absurd (by rw [hreset]; rfl) (hport r)

/-- A word other than PASS never clears ILL and never changes a recorded cause (60_exceptions.md R302). -/
theorem hostEffect_illSticky {s t : State} (h : HostEffect s t) :
    (statusIll s.status = true → statusIll t.status = true) ∧
    (statusIllCause s.status ≠ 0#4 → statusIllCause t.status = statusIllCause s.status) := by
  cases h with
  | illegal c =>
    refine ⟨fun _ => statusAfterIllegal_ill c s.status, fun hcause => ?_⟩
    exact (statusAfterIllegal_illCause c s.status).trans (if_neg hcause)
  | appended b =>
    rw [appendStaged_form]
    exact ⟨id, fun _ => rfl⟩
  | _ => exact ⟨id, fun _ => rfl⟩

/-- Settles O15: the illegal word is the one effect that writes ILL or the cause; a pass leaves both. -/
theorem illegalRecordIsSticky : Obligations.IllegalRecordIsSticky := by
  intro s t hport hstep
  rcases step_cases hstep with ⟨-, rfl⟩ | ⟨a, w, rest, -, heffect⟩ | ⟨w, rest, -, rfl⟩ | ⟨r, rest, hreset, -⟩
  case inl => exact ⟨id, fun _ => rfl⟩
  case inr.inl =>
    have hsticky := hostEffect_illSticky heffect
    exact hsticky
  case inr.inr.inl =>
    rw [runPass_ill, runPass_illCause, dropSample_status]
    exact ⟨id, fun _ => rfl⟩
  case inr.inr.inr => exact absurd (by rw [hreset]; rfl) (hport r)

/-- Settles O16: a word of the host that completes is no PASS, and no other effect reaches the loop agent's state. -/
theorem hostCommandsKeepLoopState : Obligations.HostCommandsKeepLoopState := by
  intro s t w rest hport hstep
  rw [step_command hport] at hstep
  obtain ⟨hissue, hrun⟩ := runCommand_eq_next hstep
  rcases runWord_cases hrun with heffect | ⟨hpass, -⟩
  · exact (hostEffect_frame heffect).1
  · exact absurd hpass ((mayIssue_host w).mp hissue)

/-- RD cannot read RES, so what it reads does not depend on it (20_memory.md R72). -/
theorem readReg_setRes (s : State) (v : Word) (r : Reg) : readReg (s.setRes v) r = readReg s r := by
  cases r <;> rfl

/-- Settles O17: each of these commands writes registers that it does not read; for RD this is `readReg_setRes`. -/
theorem commandsIdempotent : Obligations.CommandsIdempotent := by
  intro i s t hpass htapp hwf h
  cases i with
  | pass => exact absurd rfl hpass
  | tapp b => exact absurd rfl (htapp b)
  | nop | enc b | pack d m | flags c e | tclr | tcommit =>
    cases h
    rfl
  | rd b =>
    obtain ⟨r, hr⟩ := Option.isSome_iff_exists.mp hwf
    rw [exec_rd_assigned hr] at h ⊢
    cases h
    rw [readReg_setRes]
    rfl

end Sys2Proof.Laws

/-! SUPPORT. Once for the mode stage, every move it can make with the condition under which it makes it
(45_mode_machine.md R198, R200). -/

namespace Sys2Proof.Laws

open Machine

/-- What the mode stage can make of the state, each move with its condition. -/
inductive ModeMove (p : PassIn) (s : State) : State → Prop
  | startsCycle (hstart : StartsCycle p.now s) :
      ModeMove p s (writeGlitch p { s with mode := .glitchIn, phaseEnd := p.now + s.cfg.glitchInDur })
  | refreshes (hmode : s.mode = .base) (hstart : ¬ StartsCycle p.now s)
      (hdue : s.cfg.baseRefresh.toNat ≤ (p.now - s.lastContent).toNat) : ModeMove p s (writeBase p s)
  | waits (hmode : s.mode = .base) (hstart : ¬ StartsCycle p.now s)
      (hdue : ¬ s.cfg.baseRefresh.toNat ≤ (p.now - s.lastContent).toNat) : ModeMove p s s
  | returns (hreturn : ReturnsToBase p.now s) : ModeMove p s (returnToBase p s)
  | entersFlash (henter : EntersFlash p.now s) :
      ModeMove p s (enterFlash p { s with mode := .flash, phaseEnd := p.now + s.cfg.flashDur })
  | leavesFlash (hmode : s.mode = .flash) (hended : PhaseEnded p.now s) (hcut : ¬ CutShort s) :
      ModeMove p s (writeGlitch p { s with mode := .glitchOut, phaseEnd := p.now + s.cfg.glitchOutDur })
  | redraws (hmode : s.mode = .glitchIn ∨ s.mode = .glitchOut) (hended : ¬ PhaseEnded p.now s)
      (hdue : s.cfg.glitchFrame.toNat ≤ (p.now - s.lastGlitch).toNat) : ModeMove p s (writeGlitch p s)
  | stays (hmode : s.mode ≠ .base) (hended : ¬ PhaseEnded p.now s)
      (hdue : s.mode = .flash ∨ ¬ s.cfg.glitchFrame.toNat ≤ (p.now - s.lastGlitch).toNat) : ModeMove p s s

theorem stageBase_move (p : PassIn) {s : State} (hmode : s.mode = .base) : ModeMove p s (stageBase p s) := by
  have hstart : (flashOk s && reached p.now s.nextFlash) = true ↔ StartsCycle p.now s := by
    rw [Bool.and_eq_true, flashOk_iff, reached_iff]
    exact (and_iff_right hmode).symm
  unfold stageBase
  simp only [hstart, le_elapsed_iff]
  split_ifs with h hdue
  · exact .startsCycle h
  · exact .refreshes hmode h hdue
  · exact .waits hmode h hdue

theorem stageGlitchIn_move (p : PassIn) {s : State} (hmode : s.mode = .glitchIn) :
    ModeMove p s (stageGlitchIn p s) := by
  unfold stageGlitchIn
  simp only [reached_iff, endsAtPhase_iff, le_elapsed_iff]
  split_ifs with hended hcut hdue
  · exact .returns ⟨hended, .inr ⟨.inl hmode, hcut⟩⟩
  · exact .entersFlash ⟨hmode, hended, hcut⟩
  · exact .redraws (.inl hmode) hended hdue
  · exact .stays (by simp [hmode]) hended (.inr hdue)

theorem stageFlash_move (p : PassIn) {s : State} (hmode : s.mode = .flash) : ModeMove p s (stageFlash p s) := by
  unfold stageFlash
  simp only [reached_iff, endsAtPhase_iff]
  split_ifs with hended hcut
  · exact .returns ⟨hended, .inr ⟨.inr hmode, hcut⟩⟩
  · exact .leavesFlash hmode hended hcut
  · exact .stays (by simp [hmode]) hended (.inl hmode)

theorem stageGlitchOut_move (p : PassIn) {s : State} (hmode : s.mode = .glitchOut) :
    ModeMove p s (stageGlitchOut p s) := by
  unfold stageGlitchOut
  simp only [reached_iff, le_elapsed_iff]
  split_ifs with hended hdue
  · exact .returns ⟨hended, .inl hmode⟩
  · exact .redraws (.inr hmode) hended hdue
  · exact .stays (by simp [hmode]) hended (.inr hdue)

/-- The mode stage makes one of the moves listed (45_mode_machine.md R198). -/
theorem modeStage_move (p : PassIn) (s : State) : ModeMove p s (modeStage p s) := by
  cases hmode : s.mode with
  | base => simpa only [modeStage, hmode] using stageBase_move p hmode
  | glitchIn => simpa only [modeStage, hmode] using stageGlitchIn_move p hmode
  | flash => simpa only [modeStage, hmode] using stageFlash_move p hmode
  | glitchOut => simpa only [modeStage, hmode] using stageGlitchOut_move p hmode

/-- The condition of a move decides the mode stage: each move is the one it makes (45_mode_machine.md R198). -/
theorem modeStage_eq_of_move {p : PassIn} {s m : State} (h : ModeMove p s m) : modeStage p s = m := by
  cases h with
  | startsCycle hstart =>
    obtain ⟨hmode, hflags, hreached⟩ := hstart
    have hgo : (flashOk s && reached p.now s.nextFlash) = true :=
      Bool.and_eq_true_iff.mpr ⟨(flashOk_iff s).mpr hflags, (reached_iff _ _).mpr hreached⟩
    simp only [modeStage, hmode, stageBase, if_pos hgo]
  | refreshes hmode hstart hdue =>
    have hgo : ¬ (flashOk s && reached p.now s.nextFlash) = true := by
      rw [Bool.and_eq_true, flashOk_iff, reached_iff]
      exact fun h => hstart ⟨hmode, h⟩
    simp only [modeStage, hmode, stageBase, if_neg hgo, le_elapsed_iff, if_pos hdue]
  | waits hmode hstart hdue =>
    have hgo : ¬ (flashOk s && reached p.now s.nextFlash) = true := by
      rw [Bool.and_eq_true, flashOk_iff, reached_iff]
      exact fun h => hstart ⟨hmode, h⟩
    simp only [modeStage, hmode, stageBase, if_neg hgo, le_elapsed_iff, if_neg hdue]
  | returns hreturn =>
    obtain ⟨hended, hmode | ⟨hmode | hmode, hcut⟩⟩ := hreturn
    · simp only [modeStage, hmode, stageGlitchOut, reached_iff, if_pos hended]
    · simp only [modeStage, hmode, stageGlitchIn, reached_iff, if_pos hended, endsAtPhase_iff, if_pos hcut]
    · simp only [modeStage, hmode, stageFlash, reached_iff, if_pos hended, endsAtPhase_iff, if_pos hcut]
  | entersFlash henter =>
    obtain ⟨hmode, hended, hcut⟩ := henter
    simp only [modeStage, hmode, stageGlitchIn, reached_iff, if_pos hended, endsAtPhase_iff, if_neg hcut]
  | leavesFlash hmode hended hcut =>
    simp only [modeStage, hmode, stageFlash, reached_iff, if_pos hended, endsAtPhase_iff, if_neg hcut]
  | redraws hmode hended hdue =>
    rcases hmode with hmode | hmode
    · simp only [modeStage, hmode, stageGlitchIn, reached_iff, if_neg hended, le_elapsed_iff, if_pos hdue]
    · simp only [modeStage, hmode, stageGlitchOut, reached_iff, if_neg hended, le_elapsed_iff, if_pos hdue]
  | stays hmode hended hdue =>
    cases hs : s.mode with
    | base => exact absurd hs hmode
    | flash => simp only [modeStage, hs, stageFlash, reached_iff, if_neg hended]
    | glitchIn =>
      have hnot := hdue.resolve_left fun h => nomatch hs.symm.trans h
      simp only [modeStage, hs, stageGlitchIn, reached_iff, if_neg hended, le_elapsed_iff, if_neg hnot]
    | glitchOut =>
      have hnot := hdue.resolve_left fun h => nomatch hs.symm.trans h
      simp only [modeStage, hs, stageGlitchOut, reached_iff, if_neg hended, le_elapsed_iff, if_neg hnot]

/-- A return leaves a phase, never BASE (45_mode_machine.md R198). -/
theorem mode_ne_base_of_returnsToBase {now : Word} {s : State} (h : ReturnsToBase now s) : s.mode ≠ .base := by
  rcases h.2 with h | ⟨h | h, -⟩ <;> simp [h]

/-! ### What a pass leaves of the mode stage's state -/

/-- The flash time as a sum of words (45_mode_machine.md R196, 10_state.md R36). -/
theorem flashTime_eq (t lo hi r : Word) :
    flashTime t lo hi r = t + lo + BitVec.ofNat 32 (r.toNat % (hi.toNat - lo.toNat + 1)) := by
  rw [flashTime, flashInterval, BitVec.ofNat_add, BitVec.ofNat_toNat, BitVec.setWidth_eq, BitVec.add_assoc]

/-- The two states agree on the mode stage's registers and the display buffer. -/
structure SameModeState (s t : State) : Prop where
  mode : t.mode = s.mode
  phaseEnd : t.phaseEnd = s.phaseEnd
  nextFlash : t.nextFlash = s.nextFlash
  lastContent : t.lastContent = s.lastContent
  lastGlitch : t.lastGlitch = s.lastGlitch
  msgSel : t.msgSel = s.msgSel
  timeErr : statusTimeErr t.status = statusTimeErr s.status
  buf : t.buf = s.buf

/-- The stages after the mode stage leave its registers and the buffer alone (47_control_loop.md R251). -/
theorem runPass_sameModeState (p : PassIn) (s : State) : SameModeState (modeStage p s) (runPass p s) where
  mode := runPass_mode s p
  phaseEnd := runPass_phaseEnd s p
  nextFlash := runPass_nextFlash s p
  lastContent := runPass_lastContent s p
  lastGlitch := runPass_lastGlitch s p
  msgSel := runPass_msgSel s p
  timeErr := runPass_timeErr p s
  buf := runPass_buf s p

/-- PASS completes, and it leaves in the mode stage's registers what one of the moves gives; the moves see the state
before the pass, but for the input ports. -/
theorem exec_pass_modeMove (s : State) :
    ∃ a b t m, exec .pass s = .next t ∧ SameModeState m t ∧
      ModeMove s.sample { s with passIn := a, freeSamples := b } m := by
  obtain ⟨a, b, hdrop⟩ := dropSample_form s
  refine ⟨a, b, _, _, exec_pass s, runPass_sameModeState _ _, ?_⟩
  rw [hdrop]
  exact modeStage_move _ _

/-- TIME_ERR after base content is written (45_mode_machine.md R194). -/
theorem writeBase_timeErr (p : PassIn) (s : State) :
    statusTimeErr (writeBase p s).status = if s.flags.getLsbD 0 = true then statusTimeErr s.status else !p.wcValid := by
  rw [writeBase_status, apply_ite statusTimeErr, putTimeErr_timeErr]
  rfl

/-- What `return_to_base` leaves (45_mode_machine.md R192). -/
theorem returnedToBase_of_sameModeState {p : PassIn} {s t : State} (h : SameModeState (returnToBase p s) t) :
    ReturnedToBase p s t := by
  refine ⟨?_, ?_, ?_, ?_, ?_, ?_, ?_, ?_⟩
  · rw [h.mode, returnToBase_mode]
  · rw [h.phaseEnd, returnToBase_phaseEnd]
  · rw [h.lastGlitch, returnToBase_lastGlitch]
  · rw [h.msgSel, returnToBase_msgSel]
  · rw [h.lastContent, returnToBase_lastContent]
  · rw [h.nextFlash, returnToBase_nextFlash, flashTime_eq]
  · exact h.timeErr.trans (writeBase_timeErr p _)
  · rw [h.buf, returnToBase_buf]

/-- A glitch phase that lasts, with a glitch frame due (45_mode_machine.md R198). -/
theorem glitchFrame_of_redraw {p : PassIn} {s t : State}
    (hdue : s.cfg.glitchFrame.toNat ≤ (p.now - s.lastGlitch).toNat) (h : SameModeState (writeGlitch p s) t) :
    GlitchFrameWhileStaying p s t := by
  refine ⟨h.mode, h.phaseEnd, h.nextFlash, h.msgSel, h.lastContent, h.timeErr, ?_⟩
  rw [if_pos hdue]
  exact ⟨h.lastGlitch, h.buf⟩

/-- A glitch phase that lasts, with no glitch frame due (45_mode_machine.md R198). -/
theorem glitchFrame_of_stay {p : PassIn} {s t : State}
    (hdue : ¬ s.cfg.glitchFrame.toNat ≤ (p.now - s.lastGlitch).toNat) (h : SameModeState s t) :
    GlitchFrameWhileStaying p s t := by
  refine ⟨h.mode, h.phaseEnd, h.nextFlash, h.msgSel, h.lastContent, h.timeErr, ?_⟩
  rw [if_neg hdue]
  exact ⟨h.lastGlitch, h.buf⟩

/-- What `enter_flash` selects and shows (45_mode_machine.md R192, R197). -/
theorem enterFlash_msgSel_buf (p : PassIn) (s : State) :
    (enterFlash p s).msgSel.toNat =
      (if s.cfg.msgCount = 0#8 then 0 else p.rMsg.toNat % s.cfg.msgCount.toNat) ∧
    (enterFlash p s).buf = contentCells s.cfg.loneDot s.nEff
      (if s.cfg.msgCount = 0#8 then [] else s.rom.msgTable.getD (enterFlash p s).msgSel.toNat []) s.buf := by
  by_cases hcount : s.cfg.msgCount = 0#8
  · rw [if_pos hcount, if_pos hcount, enterFlash_of_no_message p s hcount]
    exact ⟨rfl, rfl⟩
  · have hpos : 0 < s.cfg.msgCount.toNat := by
      rw [Nat.pos_iff_ne_zero]
      exact fun h => hcount (BitVec.eq_of_toNat_eq h)
    have hlt : p.rMsg.toNat % s.cfg.msgCount.toNat < s.cfg.msgCount.toNat := Nat.mod_lt _ hpos
    have hsel : (enterFlash p s).msgSel.toNat = p.rMsg.toNat % s.cfg.msgCount.toNat := by
      rw [enterFlash_of_message p s hcount, setContent_msgSel, BitVec.toNat_ofNat, Nat.mod_eq_of_lt (by omega)]
    rw [if_neg hcount, if_neg hcount, hsel, enterFlash_of_message p s hcount]
    exact ⟨rfl, rfl⟩

end Sys2Proof.Laws

/-! PROOFS. The statements of 45_mode_machine.md about the four arms of the mode stage (R198) and its transitions
(R199, R200). In each arm the moves of the other modes are ruled out by MODE. -/

namespace Sys2Proof.Laws

open Machine

/-- Settles O36: in BASE the mode stage starts a cycle, refreshes or waits. -/
theorem baseModeStage : Obligations.BaseModeStage := by
  rintro s _ rfl hmode
  obtain ⟨a, b, t, m, hexec, hsame, hmove⟩ := exec_pass_modeMove s
  refine ⟨t, hexec, ?_⟩
  rw [hsame.mode, hsame.phaseEnd, hsame.nextFlash, hsame.lastContent, hsame.lastGlitch, hsame.msgSel, hsame.timeErr,
    hsame.buf]
  cases hmove with
  | startsCycle hstart =>
    rw [if_pos hstart.2]
    exact ⟨rfl, rfl, rfl, rfl, rfl, rfl, rfl, rfl⟩
  | refreshes _ hstart hdue =>
    rw [if_neg (fun h => hstart ⟨hmode, h⟩), if_pos hdue]
    exact ⟨writeBase_msgSel _ _, writeBase_nextFlash _ _, (writeBase_mode _ _).trans hmode, writeBase_phaseEnd _ _,
      writeBase_lastGlitch _ _, rfl, writeBase_timeErr _ _, writeBase_buf _ _⟩
  | waits _ hstart hdue =>
    rw [if_neg (fun h => hstart ⟨hmode, h⟩), if_neg hdue]
    exact ⟨rfl, rfl, hmode, rfl, rfl, rfl, rfl, rfl⟩
  | returns hreturn => exact absurd hmode (mode_ne_base_of_returnsToBase hreturn)
  | entersFlash henter => cases hmode.symm.trans henter.1
  | leavesFlash h => cases hmode.symm.trans h
  | redraws h => rcases h with h | h <;> cases hmode.symm.trans h
  | stays h => exact absurd hmode h

/-- Settles O37: in GLITCH_IN the mode stage returns to BASE, enters FLASH, redraws or stays. -/
theorem glitchInModeStage : Obligations.GlitchInModeStage := by
  rintro s _ rfl hmode
  obtain ⟨a, b, t, m, hexec, hsame, hmove⟩ := exec_pass_modeMove s
  refine ⟨t, hexec, ?_⟩
  cases hmove with
  | returns hreturn =>
    obtain ⟨hended, h | ⟨-, hcut⟩⟩ := hreturn
    · cases hmode.symm.trans h
    · rw [if_pos hended, if_pos hcut]
      have hbase := returnedToBase_of_sameModeState hsame
      exact hbase
  | entersFlash henter =>
    obtain ⟨-, hended, hcut⟩ := henter
    obtain ⟨hsel, hbuf⟩ := enterFlash_msgSel_buf s.sample
      { s with passIn := a, freeSamples := b, mode := .flash, phaseEnd := s.sample.now + s.cfg.flashDur }
    rw [if_pos hended, if_neg hcut, hsame.mode, hsame.phaseEnd, hsame.nextFlash, hsame.lastContent, hsame.lastGlitch,
      hsame.msgSel, hsame.timeErr, hsame.buf]
    exact ⟨enterFlash_mode _ _, enterFlash_phaseEnd _ _, enterFlash_nextFlash _ _, enterFlash_lastGlitch _ _,
      enterFlash_lastContent _ _, congrArg statusTimeErr (enterFlash_status _ _), hsel, hbuf⟩
  | redraws _ hended hdue =>
    rw [if_neg hended]
    have hframe := glitchFrame_of_redraw hdue hsame
    exact hframe
  | stays _ hended hdue =>
    rw [if_neg hended]
    have hframe := glitchFrame_of_stay (hdue.resolve_left fun h => nomatch hmode.symm.trans h) hsame
    exact hframe
  | startsCycle hstart => cases hmode.symm.trans hstart.1
  | refreshes h => cases hmode.symm.trans h
  | waits h => cases hmode.symm.trans h
  | leavesFlash h => cases hmode.symm.trans h

/-- Settles O38: in FLASH the mode stage returns to BASE, enters GLITCH_OUT or stays. -/
theorem flashModeStage : Obligations.FlashModeStage := by
  rintro s _ rfl hmode
  obtain ⟨a, b, t, m, hexec, hsame, hmove⟩ := exec_pass_modeMove s
  refine ⟨t, hexec, ?_⟩
  cases hmove with
  | returns hreturn =>
    obtain ⟨hended, h | ⟨-, hcut⟩⟩ := hreturn
    · cases hmode.symm.trans h
    · rw [if_pos hended, if_pos hcut]
      have hbase := returnedToBase_of_sameModeState hsame
      exact hbase
  | leavesFlash _ hended hcut =>
    rw [if_pos hended, if_neg hcut]
    exact ⟨hsame.mode, hsame.phaseEnd, hsame.nextFlash, hsame.lastGlitch, hsame.lastContent, hsame.msgSel,
      hsame.timeErr, hsame.buf⟩
  | stays _ hended _ =>
    rw [if_neg hended]
    exact ⟨hsame.mode.trans hmode, hsame.phaseEnd, hsame.nextFlash, hsame.lastGlitch, hsame.lastContent, hsame.msgSel,
      hsame.timeErr, hsame.buf⟩
  | startsCycle hstart => cases hmode.symm.trans hstart.1
  | refreshes h => cases hmode.symm.trans h
  | waits h => cases hmode.symm.trans h
  | entersFlash henter => cases hmode.symm.trans henter.1
  | redraws h => rcases h with h | h <;> cases hmode.symm.trans h

/-- Settles O39: in GLITCH_OUT the mode stage returns to BASE, redraws or stays. -/
theorem glitchOutModeStage : Obligations.GlitchOutModeStage := by
  rintro s _ rfl hmode
  obtain ⟨a, b, t, m, hexec, hsame, hmove⟩ := exec_pass_modeMove s
  refine ⟨t, hexec, ?_⟩
  cases hmove with
  | returns hreturn =>
    rw [if_pos hreturn.1]
    have hbase := returnedToBase_of_sameModeState hsame
    exact hbase
  | redraws _ hended hdue =>
    rw [if_neg hended]
    have hframe := glitchFrame_of_redraw hdue hsame
    exact hframe
  | stays _ hended hdue =>
    rw [if_neg hended]
    have hframe := glitchFrame_of_stay (hdue.resolve_left fun h => nomatch hmode.symm.trans h) hsame
    exact hframe
  | startsCycle hstart => cases hmode.symm.trans hstart.1
  | refreshes h => cases hmode.symm.trans h
  | waits h => cases hmode.symm.trans h
  | entersFlash henter => cases hmode.symm.trans henter.1
  | leavesFlash h => cases hmode.symm.trans h

/-- Where a move leads, with its condition: the transition table (45_mode_machine.md R199, R200). -/
theorem modeMove_mode_iff {p : PassIn} {s m : State} (h : ModeMove p s m) :
    (m.mode = .glitchIn ↔ StartsCycle p.now s ∨ (s.mode = .glitchIn ∧ ¬ PhaseEnded p.now s)) ∧
    (m.mode = .flash ↔ EntersFlash p.now s ∨ (s.mode = .flash ∧ ¬ PhaseEnded p.now s)) ∧
    (m.mode = .glitchOut ↔ (s.mode = .flash ∧ PhaseEnded p.now s ∧ ¬ CutShort s) ∨
      (s.mode = .glitchOut ∧ ¬ PhaseEnded p.now s)) ∧
    (m.mode = .base ↔ (s.mode = .base ∧ ¬ (s.flags = 2#2 ∧ 0 ≤ (p.now - s.nextFlash).toInt)) ∨
      ((s.mode = .glitchIn ∨ s.mode = .flash) ∧ PhaseEnded p.now s ∧ CutShort s) ∨
      (s.mode = .glitchOut ∧ PhaseEnded p.now s)) := by
  cases h with
  | startsCycle hstart =>
    obtain ⟨hmode, hflags, hreached⟩ := hstart
    simp [StartsCycle, hmode, hflags, hreached, -BitVec.toInt_sub]
  | refreshes hmode hstart =>
    simp only [StartsCycle, hmode, true_and] at hstart
    simp [hmode, hstart, -BitVec.toInt_sub]
  | waits hmode hstart =>
    simp only [StartsCycle, hmode, true_and] at hstart
    simp [hmode, hstart, -BitVec.toInt_sub]
  | returns hreturn =>
    obtain ⟨hended, hmode | ⟨hmode | hmode, hcut⟩⟩ := hreturn
    · simp [hmode, hended, -BitVec.toInt_sub]
    · simpa [EntersFlash, hmode, hended, -BitVec.toInt_sub] using hcut
    · simpa [hmode, hended, -BitVec.toInt_sub] using hcut
  | entersFlash henter =>
    obtain ⟨hmode, hended, hcut⟩ := henter
    simp [EntersFlash, hmode, hended, hcut, -BitVec.toInt_sub]
  | leavesFlash hmode hended hcut => simp [hmode, hended, hcut, -BitVec.toInt_sub]
  | redraws hmode hended => rcases hmode with hmode | hmode <;> simp [hmode, hended, -BitVec.toInt_sub]
  | stays hmode hended =>
    cases hs : s.mode with
    | base => exact absurd hs hmode
    | glitchIn | flash | glitchOut => simp [hs, hended, -BitVec.toInt_sub]

/-- Settles O41: each row is that of the one move the mode stage makes. -/
theorem modeFollowsTransitionTable : Obligations.ModeFollowsTransitionTable := by
  intro s
  obtain ⟨a, b, t, m, hexec, hsame, hmove⟩ := exec_pass_modeMove s
  refine ⟨t, hexec, ?_⟩
  rw [hsame.mode]
  have htable := modeMove_mode_iff hmove
  exact htable

end Sys2Proof.Laws

/-! SUPPORT. The values of the effective configuration (10_state.md R20), the flash time (R36) and the meaning of the
configuration checks (70_reset_and_hazards.md R342). -/

namespace Sys2Proof.Laws

open Machine

/-- A live digit pin is clamped, a pin beyond `N_eff` is 0 (10_state.md R20). -/
theorem effCfg_digitPin (c : Cfg) (k : Fin 16) :
    (effCfg c).digitPin[k] = if k.val < effN c then clampPin c.digitPin[k] else 0#5 := by
  have hpin : c.digitPin[k.val]?.getD 0#8 = c.digitPin[k] := by simp
  rw [← hpin]
  exact tabulate_getElem 16 _ k.val k.isLt

/-- A live segment pin is clamped, a pin beyond `S_eff` is 0 (10_state.md R20). -/
theorem effCfg_segPin (c : Cfg) (i : Fin 8) :
    (effCfg c).segPin[i] = if i.val < effS c then clampPin c.segPin[i] else 0#5 := by
  have hpin : c.segPin[i.val]?.getD 0#8 = c.segPin[i] := by simp
  rw [← hpin]
  exact tabulate_getElem 8 _ i.val i.isLt

theorem effFlashMax_toNat (c : Cfg) :
    (effFlashMax c).toNat = max (clampTime c.flashMin).toNat (clampTime c.flashMax).toNat := by
  rw [effFlashMax, BitVec.toNat_ofNat, Nat.mod_eq_of_lt (by omega)]

theorem effVDen_toNat (c : Cfg) : (effVDen c).toNat = max c.vDen.toNat 1 := by
  rw [effVDen, BitVec.toNat_ofNat, Nat.mod_eq_of_lt (by omega)]

theorem effDutyMax_toNat (c : Cfg) : (effDutyMax c).toNat = max c.dutyMin.toNat c.dutyMax.toNat := by
  rw [effDutyMax, BitVec.toNat_ofNat, Nat.mod_eq_of_lt (by omega)]

theorem effDutyInit_toNat (c : Cfg) :
    (effDutyInit c).toNat = min (max c.dutyInit.toNat c.dutyMin.toNat) (effDutyMax c).toNat := by
  rw [effDutyInit, BitVec.toNat_ofNat, Nat.mod_eq_of_lt (by omega)]

/-- A clamped time is below `2^31` (10_state.md R20). -/
theorem clampTime_lt (t : Word) : (clampTime t).toNat < 2 ^ 31 := by
  rw [clampTime_toNat]
  omega

/-- The clamps leave what the invariant asks of the configuration (10_state.md R20). -/
theorem effCfg_cfgInv (c : Cfg) : CfgInv (effCfg c) := by
  have pin (live : Prop) [Decidable live] (p : Byte) : (if live then clampPin p else 0#5).toNat ≤ 23 := by
    split_ifs
    · exact (clampPin_toNat p).symm ▸ min_le_right _ _
    · exact Nat.zero_le _
  refine ⟨⟨?_, ?_, ?_⟩, fun k => ⟨?_, fun hk => ?_⟩, fun i => ⟨?_, fun hi => ?_⟩, ?times, ?window, ?den, ?dutyLo, ?dutyHi⟩
  · rw [effCfg_nEff_toNat]
    exact (effN_bounds c).1
  · rw [effCfg_nEff_toNat]
    exact (effN_bounds c).2
  · rw [effCfg_sEff_toNat]
    exact effS_le c
  · rw [effCfg_digitPin]
    exact pin _ _
  · rw [effCfg_nEff_toNat] at hk
    rw [effCfg_digitPin, if_neg (by omega)]
  · rw [effCfg_segPin]
    exact pin _ _
  · rw [effCfg_sEff_toNat] at hi
    rw [effCfg_segPin, if_neg (by omega)]
  case times =>
    have hmax : (effFlashMax c).toNat < 2 ^ 31 := by
      rw [effFlashMax_toNat]
      exact max_lt (clampTime_lt _) (clampTime_lt _)
    exact ⟨clampTime_lt _, clampTime_lt _, clampTime_lt _, clampTime_lt _, clampTime_lt _, clampTime_lt _, hmax,
      clampTime_lt _⟩
  case window => exact (effFlashMax_toNat c).symm ▸ le_max_left _ _
  case den => exact (effVDen_toNat c).symm ▸ le_max_right _ _
  case dutyLo =>
    have hmax := effDutyMax_toNat c
    have hinit := effDutyInit_toNat c
    simp only [effCfg]
    omega
  case dutyHi => exact (effDutyInit_toNat c).symm ▸ min_le_right _ _

/-- A code DEF may hold: a space, a digit, an uppercase letter or punctuation (41_encoder.md R112; log 9). -/
theorem definedCode_iff (n : Nat) :
    (decide (n = 0x20) || isDigitCode n || isUpperCode n || isPunctCode n) = true ↔
      0x20 ≤ n ∧ n ≤ 0x7E ∧ ¬ (0x61 ≤ n ∧ n ≤ 0x7A) := by
  simp only [isPunctCode, isDigitCode, isUpperCode, isLowerCode, Bool.or_eq_true, Bool.and_eq_true,
    Bool.not_eq_true', decide_eq_true_eq, decide_eq_false_iff_not]
  omega

/-- CHAR_ROM and DEF keep their constraints (41_encoder.md R112). -/
theorem charRomWf_iff (rom : Vector Byte 256) (codes : List Byte) :
    charRomWf rom codes = true ↔
      (0x20#8 ∈ codes ∧ ∀ d, d < 10 → BitVec.ofNat 8 (0x30 + d) ∈ codes) ∧
      (∀ b ∈ codes, 0x20 ≤ b.toNat ∧ b.toNat ≤ 0x7E ∧ ¬ (0x61 ≤ b.toNat ∧ b.toNat ≤ 0x7A)) ∧
      rom[0x20] = 0#8 ∧
      (∀ k : Fin 256, BitVec.ofNat 8 k.val ∉ codes → ¬ (0x61 ≤ k.val ∧ k.val ≤ 0x7A) → rom[k] = 0#8) := by
  have hdark : ((List.range 256).all fun c =>
        codes.contains (BitVec.ofNat 8 c) || isLowerCode c || decide (rom[c]?.getD 0#8 = 0#8)) = true ↔
      ∀ k : Fin 256, BitVec.ofNat 8 k.val ∉ codes → ¬ (0x61 ≤ k.val ∧ k.val ≤ 0x7A) → rom[k] = 0#8 := by
    simp only [List.all_eq_true, List.mem_range, Bool.or_eq_true, List.contains_iff_mem, isLowerCode, decide_eq_true_eq,
      Fin.forall_iff, or_iff_not_imp_left]
    exact forall₂_congr fun c hc => by simp [hc]
  rw [charRomWf, Bool.and_eq_true, hdark]
  simp only [Bool.and_eq_true, List.all_eq_true, List.mem_range, List.contains_iff_mem, definedCode_iff,
    decide_eq_true_eq, and_assoc]

/-- A record with a meaning (70_reset_and_hazards.md R342). -/
theorem cfgWf_iff (c : Cfg) :
    cfgWf c = true ↔ charRomWf c.charRom c.charDef = true ∧ c.msgTable.length ≤ 255 ∧
      (∀ t ∈ c.msgTable, t.length ≤ 255) ∧ c.glitchAlphabet.length ≤ 255 ∧ c.errText.length ≤ 255 := by
  simp only [cfgWf, Bool.and_eq_true, List.all_eq_true, decide_eq_true_eq, and_assoc]

/-- At most 255 messages can be counted in `M` (10_state.md R20). -/
theorem effCfg_msgCount_toNat {c : Cfg} (h : cfgWf c = true) : (effCfg c).msgCount.toNat = c.msgTable.length := by
  obtain ⟨-, hcount, -⟩ := (cfgWf_iff c).mp h
  simp only [effCfg, BitVec.toNat_ofNat]
  omega

/-- Condition 4 of the report of clamping (70_reset_and_hazards.md R342). -/
theorem timeFieldClamped_iff (c : Cfg) : timeFieldClamped c = true ↔
    2 ^ 31 - 1 < c.refreshQ.toNat ∨ 2 ^ 31 - 1 < c.baseRefresh.toNat ∨ 2 ^ 31 - 1 < c.glitchInDur.toNat ∨
    2 ^ 31 - 1 < c.flashDur.toNat ∨ 2 ^ 31 - 1 < c.glitchOutDur.toNat ∨ 2 ^ 31 - 1 < c.glitchFrame.toNat ∨
    2 ^ 31 - 1 < c.flashMin.toNat ∨ 2 ^ 31 - 1 < c.flashMax.toNat ∨ 2 ^ 31 - 1 < c.regPeriod.toNat := by
  simp only [timeFieldClamped, List.any_cons, List.any_nil, Bool.or_false, Bool.or_eq_true, decide_eq_true_eq]
  rfl

end Sys2Proof.Laws

/-! PROOFS. The statements about reset (10_state.md R20, 70_reset_and_hazards.md R340 to R343, 41_encoder.md R112). -/

namespace Sys2Proof.Laws

open Machine

/-- Settles O18: each clause is the definition of `State.resetWith`, with STATUS bit by bit and the flash time as a
sum. -/
theorem resetRegisterValues : Obligations.ResetRegisterValues := by
  intro r s
  refine ⟨rfl, ?status, ⟨?base, ?auto⟩, rfl, ⟨fun k => ?_, rfl⟩, fun k => ?_, fun k => ?_, rfl, rfl, rfl, rfl, rfl, rfl,
    rfl, flashTime_eq _ _ _ _, rfl, rfl, rfl, rfl⟩
  case status =>
    intro j h3 h4
    exact (resetStatus_getLsbD r.cfg j).trans (by rw [if_neg h4, if_neg h3])
  case base => exact (flagsOf_base 0#1 _).trans rfl
  case auto => exact (flagsOf_auto 0#1 _).trans (by simp)
  · exact tabulate_getElem 16 _ k.val k.isLt
  · exact tabulate_getElem 16 _ k.val k.isLt
  · have hblank : s.buf[k] = blankCell := tabulate_getElem 16 _ k.val k.isLt
    rw [hblank]
    exact ⟨rfl, rfl⟩

/-- Settles O19: one lemma a field on its clamp. -/
theorem effectiveConfigurationValues : Obligations.EffectiveConfigurationValues := by
  intro r hwf c s e
  have hn : e.nEff.toNat = effN c := effCfg_nEff_toNat c
  have hs : e.sEff.toNat = effS c := effCfg_sEff_toNat c
  refine ⟨hn, hs, fun k => ?digit, fun i => ?seg, clampTime_toNat _, clampTime_toNat _, clampTime_toNat _,
    clampTime_toNat _, clampTime_toNat _, clampTime_toNat _, clampTime_toNat _, clampTime_toNat _, ?flashMax, rfl, rfl,
    effVDen_toNat c, rfl, effDutyMax_toNat c, effDutyInit_toNat c, effCfg_msgCount_toNat hwf, rfl, rfl,
    rfl, rfl, rfl, rfl, rfl⟩
  case digit =>
    have hpin : e.digitPin[k] = _ := effCfg_digitPin c k
    rw [hpin, hn, apply_ite BitVec.toNat, clampPin_toNat]
    rfl
  case seg =>
    have hpin : e.segPin[i] = _ := effCfg_segPin c i
    rw [hpin, hs, apply_ite BitVec.toNat, clampPin_toNat]
    rfl
  case flashMax => exact (effFlashMax_toNat c).trans (by rw [clampTime_toNat c.flashMax]; rfl)

/-- Settles O20: STATUS at reset holds `cfgClamped`, whose eight tests are the eight conditions, and `cfgDuplicate`,
which is false exactly on a valid pin map. -/
theorem configurationFlagsReported : Obligations.ConfigurationFlagsReported := by
  intro r c s
  have hclamp : s.status.getLsbD 3 = cfgClamped c := resetStatus_getLsbD c 3
  have hdup : s.status.getLsbD 4 = cfgDuplicate s.cfg := resetStatus_getLsbD c 4
  have hn : s.cfg.nEff.toNat = effN c := effCfg_nEff_toNat c
  have hs : s.cfg.sEff.toNat = effS c := effCfg_sEff_toNat c
  refine ⟨?clamp, ?dup⟩
  case clamp =>
    rw [hclamp, hn, hs, ← clampTime_toNat c.flashMax]
    simp only [cfgClamped, Bool.or_eq_true, decide_eq_true_eq, pinClamped_iff, timeFieldClamped_iff, or_assoc]
    rfl
  case dup => rw [hdup, ← cfgDuplicate_eq_false_iff, Bool.not_eq_false]

/-- Settles O21: the two checks are spelled out by `cfgWf_iff` and `charRomWf_iff`. -/
theorem wellFormedConfigurationMeaning : Obligations.WellFormedConfigurationMeaning := by
  intro c
  rw [cfgWf_iff, charRomWf_iff]
  simp only [and_assoc]

/-! ### The first pass -/

/-- A flash in the window but not at `T0` itself is not yet due at `T0` (70_reset_and_hazards.md R343; log 17). -/
theorem flash_not_due_at_reset (r : ResetRecord) (h : (State.resetWith r).nextFlash ≠ r.t0) :
    (r.t0 - (State.resetWith r).nextFlash).toInt < 0 := by
  obtain ⟨-, -, -, ⟨-, -, -, -, -, -, hmax, -⟩, hwindow, -⟩ := effCfg_cfgInv r.cfg
  obtain ⟨-, hle⟩ := flashInterval_mem_window hwindow r.rRst
  have hnext : (State.resetWith r).nextFlash =
      r.t0 + BitVec.ofNat 32 (flashInterval (effCfg r.cfg).flashMin (effCfg r.cfg).flashMax r.rRst) := rfl
  generalize flashInterval _ _ r.rRst = d at hle hnext
  rw [hnext] at h ⊢
  have hd : d ≠ 0 := by
    rintro rfl
    simp at h
  have hdist : (BitVec.ofNat 32 d).toNat = d := by
    rw [BitVec.toNat_ofNat, Nat.mod_eq_of_lt (by omega)]
  rw [sub_add_cancel_left, BitVec.toInt_eq_toNat_cond, BitVec.toNat_neg, hdist]
  omega

/-- No cycle starts at `T0` unless the feature is on and the first flash is due at `T0` itself
(70_reset_and_hazards.md R343; log 17). -/
theorem not_startsCycle_at_reset {r : ResetRecord}
    (h : r.cfg.autoEnReset = false ∨ (State.resetWith r).nextFlash ≠ r.t0) :
    ¬ StartsCycle r.t0 (State.resetWith r) := by
  rintro ⟨-, hflags, hreached⟩
  rcases h with hoff | hlater
  · have hauto : autoEnabled (State.resetWith r).flags = r.cfg.autoEnReset := (flagsOf_auto 0#1 _).trans (by simp)
    rw [hflags, hoff] at hauto
    exact absurd hauto (by decide)
  · exact absurd hreached (not_le.mpr (flash_not_due_at_reset r hlater))

/-- Settles O22: at `T0` the refresh and the multiplexer are due by the reset values of their clocks, the regulator is
not, and no cycle starts. -/
theorem firstPassAfterReset : Obligations.FirstPassAfterReset := by
  rintro r p s rfl hnow hflash
  let u : State := { State.resetWith r with passIn := [] }
  have hbase : modeStage p u = writeBase p u := by
    refine modeStage_eq_of_move (.refreshes rfl ?_ ?_)
    · rw [hnow]
      exact not_startsCycle_at_reset hflash
    · have hlast : p.now - u.lastContent = u.cfg.baseRefresh := by
        rw [hnow]
        exact sub_sub_cancel r.t0 _
      rw [hlast]
  have hmux : muxDue p.now u = true := by
    have hlast : p.now - u.muxLast = u.cfg.refreshQ := by
      rw [hnow]
      exact sub_sub_cancel r.t0 _
    rw [muxDue_iff, hlast]
  refine ⟨_, exec_pass _, ?mode, ?content, ?buf, fun hperiod => ?reg, runPass_frame_of_mux_due p u hmux,
    runPass_tx_of_mux_due p u hmux, runPass_txCount_of_mux_due p u hmux⟩
  case mode => exact (runPass_mode u p).trans (by rw [hbase, writeBase_mode]; rfl)
  case content => exact (runPass_lastContent u p).trans (by rw [hbase, writeBase_lastContent, hnow])
  case buf => exact (runPass_buf u p).trans (by rw [hbase, writeBase_buf]; rfl)
  case reg =>
    have hreg : regDue p.now u = false := by
      rw [← Bool.not_eq_true, regDue_iff, hnow]
      intro h
      have hzero : r.t0 - u.regLast = 0#32 := sub_self r.t0
      rw [hzero] at h
      exact hperiod (BitVec.eq_of_toNat_eq (Nat.le_zero.mp h))
    obtain ⟨hlast, hduty, hdisc⟩ := runPass_reg_not_due p u hreg
    exact ⟨hduty, hlast, hdisc⟩

/-! ### The invariant after reset -/

/-- STATUS at reset records no illegal word and reports the pin map (70_reset_and_hazards.md R341, R342). -/
theorem resetStatus_statusInv (r : ResetRecord) : StatusInv (State.resetWith r) := by
  have hbit := resetStatus_getLsbD r.cfg
  have hcause : statusIllCause (resetStatus r.cfg) = 0#4 := by
    apply BitVec.eq_of_getLsbD_eq
    intro j _
    rw [statusIllCause_getLsbD, hbit, if_neg (by omega), if_neg (by omega), Bool.and_false, BitVec.getLsbD_zero]
  refine ⟨?_, ?_, ?_, hbit 4⟩
  · apply and_eq_zero_of_bits
    intro j hj hmask
    have hreserved : ∀ j : Fin 32, (0xFFFFF0E0#32).getLsbD j.val = true → j.val ≠ 4 ∧ j.val ≠ 3 := by decide
    obtain ⟨h4, h3⟩ := hreserved ⟨j, hj⟩ hmask
    exact (hbit j).trans (by rw [if_neg h4, if_neg h3])
  · have hill : statusIll (resetStatus r.cfg) = false := hbit 0
    rw [show (State.resetWith r).status = resetStatus r.cfg from rfl, hill, hcause]
    decide
  · rw [show (State.resetWith r).status = resetStatus r.cfg from rfl, hcause]
    decide

/-- Settles O23: clause by clause, the reset values of `resetRegisterValues` and the clamps of `effCfg_cfgInv`. -/
theorem resetMeetsInvariant : Obligations.ResetMeetsInvariant := by
  intro r hwf
  obtain ⟨hrom, hcount, htexts, halphabet, herr⟩ := (cfgWf_iff r.cfg).mp hwf
  have hcfg := effCfg_cfgInv r.cfg
  have hspace (k : Fin 16) : (tabulate 16 fun _ => 0x20#8)[k] = 0x20#8 := tabulate_getElem 16 _ k.val k.isLt
  have hblank (k : Fin 16) : (tabulate 16 fun _ => blankCell)[k] = blankCell := tabulate_getElem 16 _ k.val k.isLt
  refine ⟨hcfg, ⟨hrom, ⟨hcount, effCfg_msgCount_toNat hwf⟩, htexts, halphabet, herr⟩, resetStatus_statusInv r,
    ⟨Nat.zero_le _, fun k _ => hspace k, fun k _ => hspace k⟩, ⟨fun k _ => hblank k, fun k => ?folded⟩,
    ⟨?mux, rfl, rfl, nofun⟩, ?duty, .inr rfl⟩
  case folded =>
    have hk : (State.resetWith r).buf[k] = blankCell := hblank k
    rw [hk]
    decide
  case mux => exact hcfg.1.1
  case duty => exact hcfg.2.2.2.2.2.2

/-- The named record keeps its constraints, evaluated on its ROM (95_test_vectors.md section 1). -/
theorem cfgWf_resetRecord : cfgWf resetRecord.cfg = true := by decide +kernel

/-- Settles O24: `resetMeetsInvariant` at the record the model names. -/
theorem namedResetMeetsInvariant : Obligations.NamedResetMeetsInvariant :=
  resetMeetsInvariant resetRecord cfgWf_resetRecord

end Sys2Proof.Laws

/-! PROOFS. The statements about time (00_scope.md R16), ENC (41_encoder.md R111 to R114), the valid pin map
(42_frame_packer.md R137) and the inverse byte map (R135). -/

namespace Sys2Proof.Laws

open Machine

/-! ### Time -/

/-- A time is reached while the distance to it is below `2^31` ticks (00_scope.md R16). -/
theorem reached_iff_distance (now t : Word) : reached now t = true ↔ (now - t).toNat < 2 ^ 31 := by
  rw [reached_iff, BitVec.toInt_eq_toNat_cond]
  split_ifs <;> omega

/-- Settles O51: the difference of two words is their distance modulo `2^32`, and `reached` compares it with `2^31`. -/
theorem timePredicatesMeanDistance : Obligations.TimePredicatesMeanDistance := by
  refine fun now t => ⟨fun d hd hnow => ?after, ?duty, fun d hpos hd hnow => ?before⟩
  case after =>
    have hdist : (now - t).toNat = d := by
      rw [hnow, add_sub_cancel_left, BitVec.toNat_ofNat, Nat.mod_eq_of_lt (by omega)]
    exact ⟨hdist, (reached_iff_distance now t).mpr (by omega)⟩
  case duty => rw [reached_iff_distance, timeDuty, decide_eq_true_eq]
  case before =>
    have hdist : (now - t).toNat = 2 ^ 32 - d := by
      rw [hnow, sub_sub_cancel_left, BitVec.toNat_neg, BitVec.toNat_ofNat]
      omega
    rw [← Bool.not_eq_true, reached_iff_distance]
    omega

/-! ### ENC -/

/-- A code outside DEF has an empty mask, unless it is a lowercase letter (41_encoder.md R112). -/
theorem romRead_eq_zero {r : Rom} (hwf : charRomWf r.charRom r.charDef = true) {c : Byte} (hdef : c ∉ r.charDef)
    (hlower : ¬ (0x61 ≤ c.toNat ∧ c.toNat ≤ 0x7A)) : romRead r c = 0#8 := by
  obtain ⟨-, -, -, hdark⟩ := (charRomWf_iff _ _).mp hwf
  exact hdark ⟨c.toNat, c.isLt⟩ (by simpa using hdef) hlower

/-- Settles O26: RES holds the ROM entry of the folded code, and a folded code is no lowercase letter. -/
theorem encLooksUpFoldedSymbol : Obligations.EncLooksUpFoldedSymbol := by
  refine fun b s => ⟨fold b, _, exec_enc b s, rfl, fold_toNat b, ?entry, fun hwf hdef => ?dark⟩
  case entry =>
    rw [setRes_res, BitVec.toNat_setWidth_of_le (by decide)]
    rfl
  case dark =>
    have hlower := of_decide_eq_false (fold_not_lower b)
    rw [setRes_res, encodeSymbol, romRead_eq_zero hwf hdef hlower]
    rfl

/-! ### The frame under a valid pin map -/

/-- Under a valid pin map the digit line of `k` is set exactly in the frames of digit `k` (42_frame_packer.md R137). -/
theorem pack_digitLine {e : EffCfg} (hcfg : CfgInv e) (hvalid : PinMapValid e) (d : BitVec 5) (m : Byte) {k : Fin 16}
    (hk : k.val < e.nEff.toNat) :
    (pack e d m).getLsbD e.digitPin[k].toNat = true ↔ k.val = d.toNat := by
  obtain ⟨⟨-, hn, -⟩, hdigit, -⟩ := hcfg
  obtain ⟨hdd, -, hds⟩ := hvalid
  rw [pack_getLsbD e d m _ hn]
  constructor
  · rintro ⟨-, ⟨j, hj, hjn, hpin⟩ | ⟨i, hi, -, hpin⟩⟩
    · rw [← hdd j k hjn hk (BitVec.eq_of_toNat_eq hpin), hj]
    · exact absurd (BitVec.eq_of_toNat_eq hpin).symm (hds k i hk hi)
  · intro hd
    have hpin := (hdigit k).1
    exact ⟨by omega, .inl ⟨k, hd, hk, rfl⟩⟩

/-- Under a valid pin map a live segment line shows its bit of the mask (42_frame_packer.md R137). -/
theorem pack_segmentLine {e : EffCfg} (hcfg : CfgInv e) (hvalid : PinMapValid e) (d : BitVec 5) (m : Byte) {i : Fin 8}
    (hi : i.val < e.sEff.toNat) : (pack e d m).getLsbD e.segPin[i].toNat = m.getLsbD i.val := by
  obtain ⟨⟨-, hn, -⟩, -, hseg, -⟩ := hcfg
  obtain ⟨-, hss, hds⟩ := hvalid
  rw [Bool.eq_iff_iff, pack_getLsbD e d m _ hn]
  constructor
  · rintro ⟨-, ⟨j, -, hjn, hpin⟩ | ⟨l, hl, hlit, hpin⟩⟩
    · exact absurd (BitVec.eq_of_toNat_eq hpin) (hds j i hjn hi)
    · rwa [← hss l i hl hi (BitVec.eq_of_toNat_eq hpin)]
  · intro hlit
    have hpin := (hseg i).1
    exact ⟨by omega, .inr ⟨i, hi, hlit, rfl⟩⟩

/-- Settles O28: digit lines and segment lines by `pack_digitLine` and `pack_segmentLine`; no other line is ever set by
`pack_getLsbD`. -/
theorem packRoundTripOnValidMap : Obligations.PackRoundTripOnValidMap := by
  intro e d m hcfg hvalid _ f
  refine ⟨fun k hk => pack_digitLine hcfg hvalid d m hk, fun i hi => pack_segmentLine hcfg hvalid d m hi,
    fun p hp => ?_⟩
  obtain ⟨-, ⟨k, -, hk, hpin⟩ | ⟨i, hi, -, hpin⟩⟩ := (pack_getLsbD e d m p hcfg.1.2.1).mp hp
  · exact .inl ⟨k, hk, hpin⟩
  · exact .inr ⟨i, hi, hpin⟩

/-- Settles O30: bit `p mod 8` of byte `2 - p / 8` is output `p`, and the three bytes are adjacent extracts. -/
theorem frameRecoveredFromBytes : Obligations.FrameRecoveredFromBytes := by
  refine fun f => ⟨fun p hp => ?output, ?joined⟩
  case output =>
    have hpos : 16 - 8 * (2 - p / 8) + p % 8 = p := by omega
    rw [txEvent_byte f (by omega), frameByte_getLsbD f _ _ (by omega), hpos]
  case joined =>
    have hupper : f.extractLsb' 16 8 ++ f.extractLsb' 8 8 = f.extractLsb' 8 16 :=
      BitVec.extractLsb'_append_extractLsb'_eq_extractLsb' rfl
    have hall : f.extractLsb' 8 16 ++ f.extractLsb' 0 8 = f.extractLsb' 0 24 :=
      BitVec.extractLsb'_append_extractLsb'_eq_extractLsb' rfl
    calc f = f.extractLsb' 0 24 := BitVec.extractLsb'_eq_self.symm
      _ = f.extractLsb' 16 8 ++ f.extractLsb' 8 8 ++ f.extractLsb' 0 8 := by rw [hupper, hall]

end Sys2Proof.Laws

/-! PROOFS. The statements of 43_display_buffer.md about plain texts (R156), overflow (R153) and the source's example
(R155). -/

namespace Sys2Proof.Laws

open Machine

/-- A lone '.' under DROP takes no cell (43_display_buffer.md R151). -/
theorem scanCells_dropped {lone : LoneDot} {c : Byte} (h : fold c = dotCode ∧ lone = .drop) (room : Nat) (rest : Text) :
    scanCells lone (room + 1) (c :: rest) = scanCells lone (room + 1) rest := by
  rw [scanCells_cons, if_pos h]

/-- A taken symbol with a '.' after it takes the '.' too (43_display_buffer.md R152). -/
theorem scanCells_dotted {lone : LoneDot} {c : Byte} (h : ¬ (fold c = dotCode ∧ lone = .drop)) (room : Nat)
    (rest : Text) :
    scanCells lone (room + 1) (c :: dotCode :: rest) = { sym := fold c, dot := true } :: scanCells lone room rest := by
  rw [scanCells_cons, if_neg h]
  exact if_pos rfl

/-- A taken symbol with no '.' after it (43_display_buffer.md R152). -/
theorem scanCells_undotted {lone : LoneDot} {c : Byte} (h : ¬ (fold c = dotCode ∧ lone = .drop)) (room : Nat)
    {rest : Text} (hnext : rest.head? ≠ some dotCode) :
    scanCells lone (room + 1) (c :: rest) = { sym := fold c, dot := false } :: scanCells lone room rest := by
  rw [scanCells_cons, if_neg h, if_neg hnext]

/-- The scan of a text that fits and holds no '.' takes one cell a byte (43_display_buffer.md R156). -/
theorem scanCells_plain (lone : LoneDot) {n : Nat} {t : Text} (hfits : t.length ≤ n) (hdot : dotCode ∉ t) :
    scanCells lone n t = t.map fun c => { sym := fold c, dot := false } := by
  induction t generalizing n with
  | nil => exact scanCells_eq_nil lone (.inl rfl)
  | cons c rest ih =>
    obtain ⟨room, rfl⟩ : ∃ room, n = room + 1 := ⟨n - 1, by simp at hfits; omega⟩
    obtain ⟨hc, hrest⟩ := not_or.mp (mt List.mem_cons.mpr hdot)
    have hlone : ¬ (fold c = dotCode ∧ lone = .drop) := fun h => hc ((fold_eq_dot c).mp h.1).symm
    have hnext : rest.head? ≠ some dotCode := fun h => hrest (List.mem_of_head? h)
    rw [scanCells_undotted hlone _ hnext, ih (by simpa using hfits) hrest, List.map_cons]

/-- Settles O32: the scan is the folded text (`scanCells_plain`); a cell past its end is the blank that the padding
folds to. -/
theorem plainTextStoredReversed : Obligations.PlainTextStoredReversed := by
  intro t s _ hfits hdot u k hk
  rw [setContent_buf]
  refine (contentCells_live _ _ t s.buf k.val k.isLt hk).trans ?_
  rw [scanCells_plain _ hfits hdot]
  by_cases hj : s.nEff - 1 - k.val < t.length
  · rw [List.getD_eq_getElem _ _ (by simpa using hj), List.getElem_map, List.getD_append _ _ _ _ hj,
      List.getD_eq_getElem _ _ hj]
  · have hpad : u.getD (s.nEff - 1 - k.val) 0#8 = 0x20#8 := by
      rw [List.getD_append_right _ _ _ _ (by omega), List.getD_replicate _ (by omega)]
    rw [hpad, List.getD_eq_default _ _ (by simpa using hj)]
    rfl

/-- A scan that fills its room does not look at what follows the text, but for a '.' (43_display_buffer.md R153). -/
theorem scanCells_append_of_full (lone : LoneDot) {u : Text} (hu : u.head? ≠ some dotCode) (n : Nat) (t : Text)
    (hfull : (scanCells lone n t).length = n) : scanCells lone n (t ++ u) = scanCells lone n t := by
  induction n, t using scanCells.induct lone with
  | case1 => rw [scanCells_eq_nil lone (.inr rfl), scanCells_eq_nil lone (.inr rfl)]
  | case2 n => simp [scanCells] at hfull
  | case3 n c h => simp [scanCells, h] at hfull
  | case4 n c h ih =>
    rw [scanCells_undotted h n (by simp), scanCells_eq_nil lone (.inl rfl)] at hfull
    obtain rfl : 0 = n := Nat.add_right_cancel hfull
    rw [List.singleton_append, scanCells_undotted h 0 hu, scanCells_undotted h 0 (by simp),
      scanCells_eq_nil lone (.inr rfl), scanCells_eq_nil lone (.inr rfl)]
  | case5 n c d rest h ih =>
    rw [scanCells_dropped h] at hfull
    rw [List.cons_append, scanCells_dropped h, scanCells_dropped h, ih hfull]
  | case6 n c rest h ih =>
    rw [scanCells_dotted h] at hfull
    rw [List.cons_append, List.cons_append, scanCells_dotted h, scanCells_dotted h, ih (Nat.add_right_cancel hfull)]
  | case7 n c d rest h hd ih =>
    have hnext (v : Text) : (d :: v).head? ≠ some dotCode := by simpa using hd
    rw [scanCells_undotted h n (hnext rest)] at hfull
    have happ : (d :: rest ++ u).head? ≠ some dotCode := hnext (rest ++ u)
    rw [List.cons_append, scanCells_undotted h n (hnext rest), scanCells_undotted h n happ,
      ih (Nat.add_right_cancel hfull)]

/-- Settles O33: the buffer depends on the text through its scan. -/
theorem overflowingTextDiscarded : Obligations.OverflowingTextDiscarded := by
  intro t u s hfull hu
  rw [setContent, setContent, contentCells, contentCells, scanCells_append_of_full _ hu _ t hfull]

/-- Settles O34: the four live cells, evaluated under each value of LONE_DOT. -/
theorem inlineDotExample : Obligations.InlineDotExample := by
  intro s hn
  rw [setContent_buf, hn]
  cases s.cfg.loneDot <;> rfl

end Sys2Proof.Laws

/-! PROOFS. The statements of 48_host_commands.md about FLAGS (R272), the custom text (R274 to R278) and RD (R280). -/

namespace Sys2Proof.Laws

open Machine

/-- Settles O53: the two flags are the fields of `flagsOf`. -/
theorem flagsSetsBothFlags : Obligations.FlagsSetsBothFlags :=
  fun c e s => ⟨_, exec_flags c e s, rfl, flagsOf_base c e, flagsOf_auto c e⟩

/-- Settles O54: the staging buffer becomes sixteen spaces. -/
theorem tclrEmptiesStaging : Obligations.TclrEmptiesStaging :=
  fun s => ⟨_, exec_tclr s, rfl, fun k => tabulate_getElem 16 _ k.val k.isLt⟩

/-- While there is room, the appended byte stands at `STAGE_LEN`, which rises by one (48_host_commands.md R276). -/
theorem appendStaged_of_room (b : Byte) {s : State} (hmax : s.nEff ≤ 16) (hroom : s.stageLen.toNat < s.nEff) :
    (appendStaged b s).stageLen.toNat = s.stageLen.toNat + 1 ∧
    ∀ k : Fin 16, (appendStaged b s).stage[k] = if k.val = s.stageLen.toNat then b else s.stage[k] := by
  rw [appendStaged, if_pos hroom]
  refine ⟨?len, fun k => ?byte⟩
  case len =>
    rw [BitVec.toNat_add]
    exact Nat.mod_eq_of_lt (by simp only [BitVec.toNat_ofNat]; omega)
  case byte =>
    have hbyte := Vector.getElem_setIfInBounds (xs := s.stage) (i := s.stageLen.toNat) (x := b) (j := k.val) k.isLt
    simp only [eq_comm (a := s.stageLen.toNat)] at hbyte
    exact hbyte

theorem appendStaged_of_full (b : Byte) {s : State} (hfull : s.nEff ≤ s.stageLen.toNat) : appendStaged b s = s := by
  rw [appendStaged, if_neg (by omega)]

/-- Settles O55: `appendStaged` with room and without. -/
theorem tappAppendsOrDiscards : Obligations.TappAppendsOrDiscards := by
  refine fun b s hmax => ⟨fun hroom => ?room, fun hfull => ?full⟩
  case room => exact ⟨_, exec_tapp b s, appendStaged_form b s, appendStaged_of_room b hmax hroom⟩
  case full => rw [exec_tapp, appendStaged_of_full b hfull]

/-- The published text: the staged bytes, then spaces (48_host_commands.md R278). -/
theorem committedText_getElem (s : State) (k : Fin 16) :
    (committedText s)[k] = if k.val < s.stageLen.toNat then s.stage[k] else 0x20#8 := by
  have hbyte : s.stage[k.val]?.getD 0x20#8 = s.stage[k] := by simp
  rw [← hbyte]
  exact tabulate_getElem 16 _ k.val k.isLt

/-- Settles O56: CUSTOM becomes `committedText`. -/
theorem tcommitPublishesStaging : Obligations.TcommitPublishesStaging :=
  fun s => ⟨_, exec_tcommit s, rfl, committedText_getElem s⟩

/-! ### The TEXT pseudo-instruction -/

/-- The staging buffer after TCLR and the bytes of `t`: the first `N_eff` of them (48_host_commands.md R276). -/
def HoldsStaged (t : Text) (s : State) : Prop :=
  s.stageLen.toNat = min t.length s.nEff ∧
  ∀ k : Fin 16, k.val < s.stageLen.toNat → s.stage[k] = t.getD k.val 0x20#8

theorem appendStaged_nEff (b : Byte) (s : State) : (appendStaged b s).nEff = s.nEff := by
  rw [appendStaged_form]
  rfl

/-- One more byte of the text (48_host_commands.md R276). -/
theorem appendStaged_holdsStaged {t : Text} {s : State} (hmax : s.nEff ≤ 16) (h : HoldsStaged t s) (b : Byte) :
    HoldsStaged (t ++ [b]) (appendStaged b s) := by
  obtain ⟨hlen, hbytes⟩ := h
  have hkeep {k : Nat} (hk : k < t.length) : (t ++ [b]).getD k 0x20#8 = t.getD k 0x20#8 :=
    List.getD_append _ _ _ _ hk
  rw [HoldsStaged, appendStaged_nEff, List.length_append, List.length_singleton]
  by_cases hroom : s.stageLen.toNat < s.nEff
  · obtain ⟨hlen', hbytes'⟩ := appendStaged_of_room b hmax hroom
    refine ⟨by omega, fun k hk => ?_⟩
    rw [hbytes' k]
    split_ifs with hlast
    · rw [List.getD_append_right _ _ _ _ (by omega), show k.val - t.length = 0 by omega]
      rfl
    · rw [hbytes k (by omega), hkeep (by omega)]
  · rw [appendStaged_of_full b (by omega)]
    refine ⟨by omega, fun k hk => ?_⟩
    rw [hbytes k hk, hkeep (by omega)]

/-- TCOMMIT after TAPP for each byte of `t`, on top of the bytes `done` (30_encoding.md R98). -/
theorem execSeq_tapps_tcommit (t done : Text) (s : State) (hmax : s.nEff ≤ 16) (h : HoldsStaged done s) :
    ∃ v, execSeq (t.map Instr.tapp ++ [.tcommit]) s = .next { v with custom := committedText v } ∧
      v = { s with stage := v.stage, stageLen := v.stageLen } ∧ HoldsStaged (done ++ t) v := by
  induction t generalizing done s with
  | nil => exact ⟨s, rfl, rfl, by rwa [List.append_nil]⟩
  | cons b rest ih =>
    have hnext := appendStaged_holdsStaged hmax h b
    obtain ⟨v, hexec, hform, hheld⟩ := ih (done ++ [b]) (appendStaged b s) (by rwa [appendStaged_nEff]) hnext
    refine ⟨v, hexec, ?_, by rwa [List.append_assoc, List.singleton_append] at hheld⟩
    rw [appendStaged_form] at hform
    exact hform

/-- Settles O58: the appended bytes are held by `execSeq_tapps_tcommit`, and TCOMMIT pads what is held with spaces. -/
theorem textCommandsCommitText : Obligations.TextCommandsCommitText := by
  intro s t hmax
  let cleared : State := { s with stageLen := 0#5, stage := tabulate 16 fun _ => 0x20#8 }
  have hempty : HoldsStaged [] cleared := ⟨(Nat.zero_min _).symm, fun k hk => absurd hk (Nat.not_lt_zero _)⟩
  obtain ⟨v, hexec, hform, hlen, hbytes⟩ := execSeq_tapps_tcommit t [] cleared hmax hempty
  have hn : v.nEff = s.nEff := by
    rw [hform]
    rfl
  rw [List.nil_append, hn] at hlen
  refine ⟨_, hexec, ?form, hlen, fun k => ?custom⟩
  case form =>
    rw [hform]
  case custom =>
    refine (committedText_getElem v k).trans ?_
    split_ifs with hstaged hlive hlive
    · exact hbytes k hstaged
    · omega
    · rw [List.getD_eq_default _ _ (by omega)]
    · rfl

/-! ### RD -/

/-- RD of the number of a register gives its value (20_memory.md R72, 48_host_commands.md R280). -/
theorem rdGives_of_readReg (s : State) (r : Reg) {b v : Nat} (hb : regNumber r = BitVec.ofNat 8 b)
    (hv : (readReg s r).toNat = v) : RdGives s b v := by
  refine ⟨_, exec_rd_assigned ?_ s, rfl, hv⟩
  rw [← hb]
  exact regOf_regNumber r

/-- A register narrower than RES is read zero-extended (20_memory.md R72). -/
theorem rdGives_of_zeroExtended (s : State) (r : Reg) {b w : Nat} (x : BitVec w) (hw : w ≤ 32)
    (hb : regNumber r = BitVec.ofNat 8 b) (hx : readReg s r = x.setWidth 32) : RdGives s b x.toNat :=
  rdGives_of_readReg s r hb (by rw [hx, BitVec.toNat_setWidth_of_le hw])

/-- A cell is read as its symbol with the dot in bit 8 (10_state.md R28). -/
theorem cellCode_toNat (c : Cell) : (cellCode c).toNat = c.sym.toNat + if c.dot = true then 256 else 0 := by
  have hsym := c.sym.isLt
  rw [cellCode, BitVec.toNat_append, ← Nat.shiftLeft_add_eq_or_of_lt hsym, Nat.shiftLeft_eq]
  cases c.dot
  · simp
  · exact Nat.add_comm _ _

/-- RD of an unassigned number, run as a term, records cause 3 (48_host_commands.md R280; log 10). -/
theorem exec_rd_of_assigned_eq_false {b : Byte} (h : assigned b = false) (s : State) :
    exec (.rd b) s = .next (raiseIllegal .badReg s) :=
  exec_rd_unassigned (Option.not_isSome_iff_eq_none.mp (by rw [← assigned, h]; decide)) s

/-- Settles O57: `rdGives_of_readReg` for the registers of 32 bits and those coded as an enumeration,
`rdGives_of_zeroExtended` for the narrower ones, `exec_rd_of_assigned_eq_false` for the numbers that name none. -/
theorem rdReadsRegisterMap : Obligations.RdReadsRegisterMap := by
  intro s
  have word (r : Reg) {b : Nat} (hb : regNumber r = BitVec.ofNat 8 b) : RdGives s b (readReg s r).toNat :=
    rdGives_of_readReg s r hb rfl
  have narrow (r : Reg) {b w : Nat} (x : BitVec w) (hw : w ≤ 32) (hb : regNumber r = BitVec.ofNat 8 b)
      (hx : readReg s r = x.setWidth 32) : RdGives s b x.toNat := rdGives_of_zeroExtended s r x hw hb hx
  have hw5 : 5 ≤ 32 := by decide
  have hw8 : 8 ≤ 32 := by decide
  have hw16 : 16 ≤ 32 := by decide
  refine ⟨word .status rfl, ?mode, narrow .flags s.flags (by decide) rfl rfl,
    narrow .muxIdx s.muxIdx (by decide) rfl rfl, word .muxLast rfl, narrow .frame s.frame (by decide) rfl rfl,
    word .txCount rfl, narrow .duty s.duty hw16 rfl rfl, word .regLast rfl, word .phaseEnd rfl, word .nextFlash rfl,
    word .lastContent rfl, word .lastGlitch rfl, narrow .msgSel s.msgSel hw8 rfl rfl,
    narrow .stageLen s.stageLen hw5 rfl rfl, narrow .nEff s.cfg.nEff hw8 rfl rfl,
    narrow .sEff s.cfg.sEff hw8 rfl rfl, word .refreshQ rfl, word .baseRefresh rfl, word .glitchInDur rfl,
    word .flashDur rfl, word .glitchOutDur rfl, word .glitchFrame rfl, word .flashMin rfl, word .flashMax rfl,
    word .regPeriod rfl, narrow .vTarget s.cfg.vTarget hw16 rfl rfl, narrow .vNum s.cfg.vNum hw16 rfl rfl,
    narrow .vDen s.cfg.vDen hw16 rfl rfl, narrow .dutyMin s.cfg.dutyMin hw16 rfl rfl,
    narrow .dutyMax s.cfg.dutyMax hw16 rfl rfl, narrow .dutyInit s.cfg.dutyInit hw16 rfl rfl,
    narrow .msgCount s.cfg.msgCount hw8 rfl rfl, ?loneDot, ?disablePolicy, fun k => ?cell,
    fun k => narrow (.custom k) s.custom[k] hw8 rfl rfl, fun k => narrow (.stage k) s.stage[k] hw8 rfl rfl,
    fun k => narrow (.digitPin k) s.cfg.digitPin[k] hw5 rfl rfl,
    fun i => narrow (.segPin i) s.cfg.segPin[i] hw5 rfl rfl, fun b hb => ?unassigned⟩
  case mode =>
    refine rdGives_of_readReg s .mode rfl ?_
    rw [readReg]
    cases s.mode <;> rfl
  case loneDot =>
    refine rdGives_of_readReg s .loneDot rfl ?_
    rw [readReg]
    cases s.cfg.loneDot <;> rfl
  case disablePolicy =>
    refine rdGives_of_readReg s .disablePolicy rfl ?_
    rw [readReg]
    cases s.cfg.disablePolicy <;> rfl
  case cell =>
    rw [← cellCode_toNat]
    exact narrow (.buf k) (cellCode s.buf[k]) (by decide) rfl rfl
  case unassigned =>
    refine ⟨_, exec_rd_of_assigned_eq_false ((registerNumbersAssigned.1 b).mpr hb) s, rfl,
      statusAfterIllegal_ill _ _, fun hnone => ?_⟩
    exact (statusAfterIllegal_illCause .badReg s.status).trans (if_pos hnone)

end Sys2Proof.Laws

/-! PROOFS. The statements of 47_control_loop.md about what a whole pass leaves unchanged (R251, R254), and of
00_scope.md R12 about the inputs it does not read. -/

namespace Sys2Proof.Laws

open Machine

/-- The cells beyond `N_eff` are untouched by a pass (43_display_buffer.md R154). -/
theorem runPass_buf_beyond (p : PassIn) (s : State) (k : Fin 16) (hk : s.nEff ≤ k.val) :
    (runPass p s).buf[k] = s.buf[k] := by
  rw [runPass_buf]
  rcases modeStage_buf p s with h | ⟨t, h⟩
  · rw [h]
  · rw [h]
    exact contentCells_beyond _ _ t s.buf k.val k.isLt hk

/-- Settles O49: field by field, the laws of a pass and of sampling PASS_IN. -/
theorem passFrame : Obligations.PassFrame := by
  intro s
  have hn : s.dropSample.nEff = s.nEff := congrArg (·.nEff.toNat) (dropSample_cfg s)
  refine ⟨_, exec_pass s, ⟨?_, ?_, ?_, ?_, ?_⟩, ?_, ?_, fun j h1 h2 => ?status, fun k hk => ?buf, ?tx, ?_, ?_⟩
  case status => rw [runPass_status_getLsbD _ _ j h1 h2, dropSample_status]
  case buf => rw [runPass_buf_beyond _ _ k (hn.symm ▸ hk), dropSample_buf]
  case tx =>
    rcases runPass_tx s.sample s.dropSample with ⟨htx, -⟩ | ⟨htx, -⟩
    · exact .inl (htx.trans (dropSample_tx s))
    · exact .inr ⟨_, htx.trans (by rw [dropSample_tx])⟩
  all_goals simp

/-- A pass with no stage due leaves the state it samples from (47_control_loop.md R251). -/
theorem runPass_eq_self {p : PassIn} {s : State} (hmode : ModeMove p s s) (hreg : regDue p.now s = false)
    (hmux : muxDue p.now s = false) : runPass p s = s := by
  rw [runPass_mux_not_due p s hmux, modeStage_eq_of_move hmode, regStage_not_due p s hreg]

/-- Settles O50: the mode stage waits in BASE and stays in any other mode, and the other two gates are closed. -/
theorem passWithNothingDue : Obligations.PassWithNothingDue := by
  rintro s _ rfl hbase hphase hglitch hreg hmux
  obtain ⟨a, b, hdrop⟩ := dropSample_form s
  rw [exec_pass, runPass_eq_self ?mode ?reg ?mux]
  case reg =>
    rw [← Bool.not_eq_true, regDue_iff, dropSample_cfg, dropSample_regLast]
    omega
  case mux =>
    rw [← Bool.not_eq_true, muxDue_iff, dropSample_cfg, dropSample_muxLast]
    omega
  case mode =>
    rw [hdrop]
    by_cases hmode : s.mode = .base
    · obtain ⟨hstart, hdue⟩ := hbase hmode
      exact .waits hmode (fun h => hstart h.2) (not_le.mpr hdue)
    · refine .stays hmode (not_le.mpr (hphase hmode)) ?_
      cases hs : s.mode with
      | base => exact absurd hs hmode
      | flash => exact .inl rfl
      | glitchIn => exact .inr (not_le.mpr (hglitch (.inl hs)))
      | glitchOut => exact .inr (not_le.mpr (hglitch (.inr hs)))

/-! ### The inputs a pass reads -/

/-- A glitch text reads `r_gl[j]` for its own bytes, and none from an empty alphabet (45_mode_machine.md R195). -/
theorem glitchText_congr {p q : PassIn} {s : State}
    (h : s.rom.glitchAlphabet ≠ [] → ∀ j : Fin 16, j.val < s.nEff → q.rGl[j] = p.rGl[j]) :
    glitchText q s = glitchText p s := by
  refine List.map_congr_left fun j hj => ?_
  by_cases hempty : s.rom.glitchAlphabet = []
  · rw [hempty, glitchByte_nil, glitchByte_nil]
  · have hword : q.rGl[j]? = p.rGl[j]? := by
      by_cases h16 : j < 16
      · rw [Vector.getElem?_eq_getElem h16, Vector.getElem?_eq_getElem h16]
        exact congrArg some (h hempty ⟨j, h16⟩ (List.mem_range.mp hj))
      · rw [Vector.getElem?_eq_none (by omega), Vector.getElem?_eq_none (by omega)]
    rw [glitchByte, glitchByte, hword]

theorem writeGlitch_congr {p q : PassIn} {s : State} (hnow : q.now = p.now)
    (h : s.rom.glitchAlphabet ≠ [] → ∀ j : Fin 16, j.val < s.nEff → q.rGl[j] = p.rGl[j]) :
    writeGlitch q s = writeGlitch p s := by
  rw [writeGlitch, writeGlitch, glitchText_congr h, hnow]

/-- Base content reads the wall clock in clock mode alone, and its fields if valid (45_mode_machine.md R191). -/
theorem writeBase_congr {p q : PassIn} {s : State} (hnow : q.now = p.now)
    (h : s.flags.getLsbD 0 = false → q.wcValid = p.wcValid ∧ (p.wcValid = true →
      q.wcHour = p.wcHour ∧ q.wcMin = p.wcMin ∧ q.wcSec = p.wcSec ∧ q.wcYday = p.wcYday)) :
    writeBase q s = writeBase p s := by
  cases hcustom : baseIsCustom s.flags with
  | true =>
    rw [writeBase, writeBase, baseText_of_custom q hcustom, baseText_of_custom p hcustom, hnow]
    simp only [hcustom, if_true]
  | false =>
    obtain ⟨hvalid, hclock⟩ := h hcustom
    have htext : baseText q s = baseText p s := by
      rw [baseText_of_clock q hcustom, baseText_of_clock p hcustom, hvalid]
      split_ifs with hv
      · obtain ⟨hh, hm, hs, hy⟩ := hclock hv
        rw [hh, hm, hs, hy]
      · rfl
    rw [writeBase, writeBase, htext, hvalid, hnow]

theorem returnToBase_congr {p q : PassIn} {s : State} (hnow : q.now = p.now) (hint : q.rInt = p.rInt)
    (h : s.flags.getLsbD 0 = false → q.wcValid = p.wcValid ∧ (p.wcValid = true →
      q.wcHour = p.wcHour ∧ q.wcMin = p.wcMin ∧ q.wcSec = p.wcSec ∧ q.wcYday = p.wcYday)) :
    returnToBase q s = returnToBase p s := by
  rw [returnToBase, returnToBase, hnow, hint]
  exact writeBase_congr hnow h

theorem enterFlash_congr {p q : PassIn} {s : State} (h : s.cfg.msgCount ≠ 0#8 → q.rMsg = p.rMsg) :
    enterFlash q s = enterFlash p s := by
  by_cases hcount : s.cfg.msgCount = 0#8
  · rw [enterFlash_of_no_message q s hcount, enterFlash_of_no_message p s hcount]
  · rw [enterFlash_of_message q s hcount, enterFlash_of_message p s hcount, h hcount]

/-- Under the second sample the mode stage makes the same move (45_mode_machine.md R191 to R198). -/
theorem modeMove_congr {p q : PassIn} {s m : State} (hagree : AgreeOnRead s p q) (h : ModeMove p s m) :
    ModeMove q s m := by
  obtain ⟨hnow, hint, hmsg, hglitch, hclock, -⟩ := hagree
  cases h with
  | startsCycle hstart =>
    rw [← writeGlitch_congr (s := { s with mode := .glitchIn, phaseEnd := p.now + s.cfg.glitchInDur }) hnow
      (hglitch (.inl hstart)), ← hnow]
    rw [← hnow] at hstart
    exact .startsCycle hstart
  | refreshes hmode hstart hdue =>
    rw [← writeBase_congr hnow (hclock (.inr ⟨hmode, hstart, hdue⟩))]
    rw [← hnow] at hstart hdue
    exact .refreshes hmode hstart hdue
  | waits hmode hstart hdue =>
    rw [← hnow] at hstart hdue
    exact .waits hmode hstart hdue
  | returns hreturn =>
    rw [← returnToBase_congr hnow (hint hreturn) (hclock (.inl hreturn))]
    rw [← hnow] at hreturn
    exact .returns hreturn
  | entersFlash henter =>
    rw [← enterFlash_congr (s := { s with mode := .flash, phaseEnd := p.now + s.cfg.flashDur }) (hmsg henter), ← hnow]
    rw [← hnow] at henter
    exact .entersFlash henter
  | leavesFlash hmode hended hcut =>
    rw [← writeGlitch_congr (s := { s with mode := .glitchOut, phaseEnd := p.now + s.cfg.glitchOutDur }) hnow
      (hglitch (.inr (.inl ⟨hmode, hended, hcut⟩))), ← hnow]
    rw [← hnow] at hended
    exact .leavesFlash hmode hended hcut
  | redraws hmode hended hdue =>
    rw [← writeGlitch_congr hnow (hglitch (.inr (.inr ⟨hmode, hended, hdue⟩)))]
    rw [← hnow] at hended hdue
    exact .redraws hmode hended hdue
  | stays hmode hended hdue =>
    rw [← hnow] at hended hdue
    exact .stays hmode hended hdue

/-- The regulator reads `v_conn` at a tick, `v_raw` if connected (46_regulator.md R231, R234). -/
theorem regStage_congr {p q : PassIn} {s : State} (hnow : q.now = p.now)
    (h : regDue p.now s = true → q.vConn = p.vConn ∧ (p.vConn = true → q.vRaw = p.vRaw)) :
    regStage q s = regStage p s := by
  cases hdue : regDue p.now s with
  | false => rw [regStage_not_due p s hdue, regStage_not_due q s (hnow ▸ hdue)]
  | true =>
    obtain ⟨hconn, hraw⟩ := h hdue
    cases hc : p.vConn with
    | false =>
      rw [regStage_disconnected p s hdue hc, regStage_disconnected q s (hnow ▸ hdue) (hconn.trans hc), hnow]
    | true =>
      rw [regStage_connected p s hdue hc, regStage_connected q s (hnow ▸ hdue) (hconn.trans hc), hnow, hraw hc]

/-- A pass gives one state on two samples that agree on what it reads (00_scope.md R12). -/
theorem runPass_congr {p q : PassIn} {s : State} (hagree : AgreeOnRead s p q) : runPass q s = runPass p s := by
  have hmode : modeStage q s = modeStage p s := modeStage_eq_of_move (modeMove_congr hagree (modeStage_move p s))
  obtain ⟨hnow, -, -, -, -, hreg⟩ := hagree
  have htick (hdue : regDue p.now (modeStage p s) = true) : RegulatorTicks p.now s :=
    (regDue_iff _ _).mp ((regDue_after_modeStage _ p s).symm.trans hdue)
  rw [runPass, runPass, hmode, hnow, regStage_congr hnow fun hdue => hreg (htick hdue)]

/-- Settles O46: the state the pass runs from is the same for both samples, and `runPass_congr` applies to it. -/
theorem unreadInputsHaveNoEffect : Obligations.UnreadInputsHaveNoEffect := by
  intro s p q rest hagree
  have hsampled : AgreeOnRead { s with passIn := rest } p q := hagree
  exact congrArg Host.Outcome.next (runPass_congr hsampled)

end Sys2Proof.Laws

/-! PROOFS. The statements about runs of passes: the regulator's rise (46_regulator.md R237) and the cycle of the digits
(44_multiplexer.md R175). -/

namespace Sys2Proof.Laws

open Machine

/-! ### The regulator over a run -/

/-- Every due tick below the target raises the duty by 1 to the maximum (46_regulator.md R237). -/
theorem runPasses_duty_of_below (v : BitVec 16) (ps : List PassIn) (s : State)
    (hduty : s.duty.toNat ≤ s.cfg.dutyMax.toNat)
    (hbelow : v.toNat * s.cfg.vNum.toNat < s.cfg.vTarget.toNat * s.cfg.vDen.toNat)
    (hticks : ∀ p ∈ duePasses s.cfg.regPeriod s.regLast ps, p.vConn = true ∧ p.vRaw = v) :
    (runPasses ps s).duty.toNat =
      min (s.duty.toNat + (duePasses s.cfg.regPeriod s.regLast ps).length) s.cfg.dutyMax.toNat := by
  induction ps generalizing s with
  | nil => simpa using hduty
  | cons p ps ih =>
    have hnext := ih (runPass p s)
    rw [runPass_cfg] at hnext
    rw [runPasses_cons]
    by_cases hdue : s.cfg.regPeriod.toNat ≤ (p.now - s.regLast).toNat
    · rw [duePasses_of_due hdue] at hticks ⊢
      obtain ⟨hconn, hraw⟩ := hticks p List.mem_cons_self
      obtain ⟨hlast, -, hnew⟩ := runPass_reg_connected p s ((regDue_iff _ _).mpr hdue) hconn
      have hrise := nextDuty_below s.cfg v s.duty hbelow
      rw [hnew, hlast, hraw, hrise] at hnext
      rw [hnext (min_le_right _ _) hbelow fun q hq => hticks q (List.mem_cons_of_mem _ hq), List.length_cons]
      omega
    · rw [duePasses_of_not_due hdue] at hticks ⊢
      obtain ⟨hlast, hsame, -⟩ := runPass_reg_not_due p s (by rwa [← Bool.not_eq_true, regDue_iff])
      rw [hsame, hlast] at hnext
      exact hnext hduty hbelow hticks

/-- Disconnected ticks hold the duty (46_regulator.md R237). -/
theorem runPasses_duty_of_disconnected (ps : List PassIn) (s : State)
    (hticks : ∀ p ∈ duePasses s.cfg.regPeriod s.regLast ps, p.vConn = false) : (runPasses ps s).duty = s.duty := by
  induction ps generalizing s with
  | nil => rfl
  | cons p ps ih =>
    have hnext := ih (runPass p s)
    rw [runPass_cfg] at hnext
    rw [runPasses_cons]
    by_cases hdue : s.cfg.regPeriod.toNat ≤ (p.now - s.regLast).toNat
    · rw [duePasses_of_due hdue] at hticks
      obtain ⟨hlast, -, hsame⟩ :=
        runPass_reg_disconnected p s ((regDue_iff _ _).mpr hdue) (hticks p List.mem_cons_self)
      rw [hlast, hsame] at hnext
      exact hnext fun q hq => hticks q (List.mem_cons_of_mem _ hq)
    · rw [duePasses_of_not_due hdue] at hticks
      obtain ⟨hlast, hsame, -⟩ := runPass_reg_not_due p s (by rwa [← Bool.not_eq_true, regDue_iff])
      rw [hsame, hlast] at hnext
      exact hnext hticks

/-- Settles O45: both clauses by induction on the run, a pass being a tick or not. -/
theorem regulatorMonotoneToMaximum : Obligations.RegulatorMonotoneToMaximum :=
  fun s v ps => ⟨runPasses_duty_of_below v ps s, runPasses_duty_of_disconnected ps s⟩

/-! ### The multiplexer over a run -/

/-- The events send the digits one after the other modulo `N_eff`, from digit `i` on (44_multiplexer.md R175). -/
def SendsDigitsFrom (e : EffCfg) (i : Nat) (evs : List TxEvent) : Prop :=
  ∀ j (hj : j < evs.length), ∃ mask, evs[j].frame = pack e (BitVec.ofNat 5 ((i + j) % e.nEff.toNat)) mask

theorem sendsDigitsFrom_cons {e : EffCfg} {i : Nat} {ev : TxEvent} {evs : List TxEvent} {mask : Byte}
    (hi : i < e.nEff.toNat) (hfirst : ev.frame = pack e (BitVec.ofNat 5 i) mask)
    (hrest : SendsDigitsFrom e ((i + 1) % e.nEff.toNat) evs) : SendsDigitsFrom e i (ev :: evs) := by
  intro j hj
  cases j with
  | zero => exact ⟨mask, by rwa [Nat.add_zero, Nat.mod_eq_of_lt hi]⟩
  | succ j =>
    obtain ⟨m, hm⟩ := hrest j (Nat.lt_of_succ_lt_succ hj)
    rw [Nat.mod_add_mod, Nat.add_assoc, Nat.add_comm 1 j] at hm
    exact ⟨m, hm⟩

/-- The due passes of a run advance `MUX_IDX` and send as many digits (44_multiplexer.md R173, R175). -/
theorem runPasses_mux (ps : List PassIn) (s : State) (hcfg : CfgInv s.cfg) (hidx : s.muxIdx.toNat < s.nEff) :
    (runPasses ps s).muxIdx.toNat =
      (s.muxIdx.toNat + (duePasses s.cfg.refreshQ s.muxLast ps).length) % s.nEff ∧
    ∃ evs, (runPasses ps s).tx = s.tx ++ evs ∧ evs.length = (duePasses s.cfg.refreshQ s.muxLast ps).length ∧
      SendsDigitsFrom s.cfg s.muxIdx.toNat evs := by
  induction ps generalizing s with
  | nil => exact ⟨(Nat.mod_eq_of_lt hidx).symm, [], (List.append_nil _).symm, rfl, nofun⟩
  | cons p ps ih =>
    have hnext := ih (runPass p s)
    have hn : (runPass p s).nEff = s.nEff := congrArg (·.nEff.toNat) (runPass_cfg s p)
    rw [runPass_cfg, hn] at hnext
    rw [runPasses_cons]
    by_cases hdue : s.cfg.refreshQ.toNat ≤ (p.now - s.muxLast).toNat
    · have hgate : muxDue p.now s = true := (muxDue_iff _ _).mpr hdue
      have hadvance : (runPass p s).muxIdx.toNat = (s.muxIdx.toNat + 1) % s.nEff := by
        rw [runPass_mux_due p s hgate]
        exact nextMuxIdx_toNat s hcfg.1.1 hcfg.1.2.1
      have hlast : (runPass p s).muxLast = p.now := by rw [runPass_mux_due p s hgate]
      rw [hadvance, hlast, runPass_tx_of_mux_due p s hgate] at hnext
      obtain ⟨hend, evs, htx, hlen, hsends⟩ := hnext hcfg (Nat.mod_lt _ (by omega))
      rw [duePasses_of_due hdue, List.length_cons]
      refine ⟨?idx, txEvent (runPass p s).frame :: evs, ?tx, congrArg (· + 1) hlen, ?sends⟩
      case idx => rw [hend, Nat.mod_add_mod, Nat.add_assoc, Nat.add_comm 1]
      case tx => rw [htx, List.append_assoc, List.singleton_append]
      case sends =>
        have hfirst := runPass_frame_of_mux_due p s hgate
        rw [← BitVec.ofNat_toNat] at hfirst
        exact sendsDigitsFrom_cons hidx hfirst hsends
    · have hgate : muxDue p.now s = false := by rwa [← Bool.not_eq_true, muxDue_iff]
      have hidle := runPass_mux_not_due p s hgate
      have hsame : (runPass p s).muxIdx = s.muxIdx ∧ (runPass p s).muxLast = s.muxLast ∧ (runPass p s).tx = s.tx := by
        rw [hidle]
        simp
      obtain ⟨hi, hl, ht⟩ := hsame
      rw [hi, hl, ht] at hnext
      rw [duePasses_of_not_due hdue]
      exact hnext hcfg hidx

/-- Among `n` consecutive digits modulo `n` each digit comes once (44_multiplexer.md R175). -/
theorem exists_unique_turn {n i k : Nat} (hi : i < n) (hk : k < n) :
    ∃ j, j < n ∧ (i + j) % n = k ∧ ∀ j', j' < n → (i + j') % n = k → j' = j := by
  have hturn : ∃ j, j < n ∧ (i + j) % n = k := by
    by_cases h : i ≤ k
    · exact ⟨k - i, by omega, by rw [Nat.add_sub_cancel' h, Nat.mod_eq_of_lt hk]⟩
    · exact ⟨k + n - i, by omega, by rw [Nat.add_sub_cancel' (by omega), Nat.add_mod_right, Nat.mod_eq_of_lt hk]⟩
  obtain ⟨j, hj, hjk⟩ := hturn
  refine ⟨j, hj, hjk, fun j' hj' hjk' => ?_⟩
  have hmod : i + j' ≡ i + j [MOD n] := hjk'.trans hjk.symm
  exact (Nat.ModEq.add_left_cancel' i hmod).eq_of_lt_of_lt hj' hj

/-- Settles O48: `runPasses_mux` with `N_eff` due passes; under a valid pin map the frame of a digit sets that digit's
line alone, and each digit has its turn once. -/
theorem everyDigitOncePerCycle : Obligations.EveryDigitOncePerCycle := by
  intro s ps hcfg hidx hdue t
  obtain ⟨hend, evs, htx, hlen, hsends⟩ := runPasses_mux ps s hcfg hidx
  rw [hdue] at hend hlen
  rw [Nat.add_mod_right, Nat.mod_eq_of_lt hidx] at hend
  refine ⟨BitVec.eq_of_toNat_eq hend, evs, htx, hlen, hsends, fun hvalid k hk => ?_⟩
  have hline (j : Nat) (hj : j < evs.length) :
      evs[j].frame.getLsbD s.cfg.digitPin[k].toNat = true ↔ (s.muxIdx.toNat + j) % s.nEff = k.val := by
    obtain ⟨mask, hframe⟩ := hsends j hj
    have hlt : (s.muxIdx.toNat + j) % s.cfg.nEff.toNat < s.cfg.nEff.toNat := Nat.mod_lt _ hcfg.1.1
    have hmax := hcfg.1.2.1
    rw [hframe, pack_digitLine hcfg hvalid _ mask hk, BitVec.toNat_ofNat, Nat.mod_eq_of_lt (b := 2 ^ 5) (by omega),
      eq_comm]
    rfl
  obtain ⟨j, hj, hturn, honly⟩ := exists_unique_turn hidx hk
  refine ⟨j, hlen ▸ hj, (hline j _).mpr hturn, fun j' hj' hset => ?_⟩
  exact honly j' (hlen ▸ hj') ((hline j' hj').mp hset)

end Sys2Proof.Laws

/-! PROOFS. The invariant of the CORE (10_state.md R44): each clause is kept by a host effect and by a pass. -/

namespace Sys2Proof.Laws

open Machine

/-! ### Host effects -/

/-- A word with no bit of a mask has none of its bits set there. -/
theorem getLsbD_eq_false_of_and_eq_zero {w mask : Word} (h : w &&& mask = 0#32) {j : Nat}
    (hj : mask.getLsbD j = true) : w.getLsbD j = false := by
  have hbit : (w &&& mask).getLsbD j = false := by rw [h, BitVec.getLsbD_zero]
  rwa [BitVec.getLsbD_and, hj, Bool.and_true] at hbit

/-- The reserved bits of STATUS lie outside its fields (10_state.md R23). -/
theorem status_reserved_bits {j : Nat} (hj : j < 32) (h : (0xFFFFF0E0#32).getLsbD j = true) :
    j ≠ 0 ∧ j ≠ 1 ∧ j ≠ 2 ∧ (j < 8 ∨ 12 ≤ j) := by
  have hbits : ∀ j : Fin 32, (0xFFFFF0E0#32).getLsbD j.val = true →
      j.val ≠ 0 ∧ j.val ≠ 1 ∧ j.val ≠ 2 ∧ (j.val < 8 ∨ 12 ≤ j.val) := by decide
  exact hbits ⟨j, hj⟩ h

/-- Each cause has a code from 1 to 3 (60_exceptions.md R301). -/
theorem causeCode_bounds (c : IllegalCause) : causeCode c ≠ 0#4 ∧ (causeCode c).toNat ≤ 3 := by
  cases c <;> decide

/-- Recording an illegal word keeps STATUS well-formed (60_exceptions.md R302). -/
theorem raiseIllegal_statusInv (c : IllegalCause) {s : State} (h : StatusInv s) : StatusInv (raiseIllegal c s) := by
  obtain ⟨hreserved, -, hcause, hdup⟩ := h
  obtain ⟨hcode, hcode3⟩ := causeCode_bounds c
  have hnew := statusAfterIllegal_illCause c s.status
  refine ⟨?_, ?_, ?_, (statusAfterIllegal_dup c s.status).trans hdup⟩
  · apply and_eq_zero_of_bits
    intro j hj hmask
    obtain ⟨h0, -, -, hout⟩ := status_reserved_bits hj hmask
    rw [raiseIllegal_status, statusAfterIllegal_getLsbD c _ j hout, if_neg h0]
    exact getLsbD_eq_false_of_and_eq_zero hreserved hmask
  · rw [raiseIllegal_status, statusAfterIllegal_ill, hnew]
    refine iff_of_true rfl ?_
    split_ifs with hnone
    · exact hcode
    · exact hnone
  · rw [raiseIllegal_status, hnew]
    split_ifs
    · exact hcode3
    · exact hcause

/-- An appended byte keeps the staging buffer in its bounds (48_host_commands.md R276). -/
theorem appendStaged_textInv (b : Byte) {s : State} (hmax : s.nEff ≤ 16) (h : TextInv s) :
    TextInv (appendStaged b s) := by
  by_cases hroom : s.stageLen.toNat < s.nEff
  · obtain ⟨-, hstage, hcustom⟩ := h
    obtain ⟨hlen, hbytes⟩ := appendStaged_of_room b hmax hroom
    have hkept : (appendStaged b s).custom = s.custom := by rw [appendStaged_form]
    rw [TextInv, hlen, appendStaged_nEff, hkept]
    refine ⟨hroom, fun k hk => ?_, hcustom⟩
    rw [hbytes k, if_neg (by omega), hstage k (by omega)]
  · rw [appendStaged_of_full b (by omega)]
    exact h

/-- Every effect of a word other than PASS keeps the invariant (10_state.md R44). -/
theorem hostEffect_coreInv {s t : State} (heffect : HostEffect s t) (h : CoreInv s) : CoreInv t := by
  cases heffect with
  | nothing | result v | flags c e => exact h
  | cleared =>
    obtain ⟨hcfg, hrom, hstatus, ⟨-, -, hcustom⟩, hrest⟩ := h
    exact ⟨hcfg, hrom, hstatus, ⟨Nat.zero_le _, fun k _ => tabulate_getElem 16 _ k.val k.isLt, hcustom⟩, hrest⟩
  | appended b =>
    obtain ⟨hcfg, hrom, hstatus, htext, hrest⟩ := h
    have htext' := appendStaged_textInv b hcfg.1.2.1 htext
    rw [appendStaged_form] at htext' ⊢
    exact ⟨hcfg, hrom, hstatus, htext', hrest⟩
  | committed =>
    obtain ⟨hcfg, hrom, hstatus, ⟨hlen, hstage, -⟩, hrest⟩ := h
    refine ⟨hcfg, hrom, hstatus, ⟨hlen, hstage, fun k hk => ?_⟩, hrest⟩
    exact (committedText_getElem s k).trans (if_neg (not_lt.mpr (le_trans hlen hk)))
  | illegal c =>
    obtain ⟨hcfg, hrom, hstatus, hrest⟩ := h
    exact ⟨hcfg, hrom, raiseIllegal_statusInv c hstatus, hrest⟩

/-! ### A pass -/

/-- A pass writes V_DISC and TIME_ERR alone in STATUS (47_control_loop.md R251). -/
theorem runPass_statusInv (p : PassIn) {s : State} (h : StatusInv s) : StatusInv (runPass p s) := by
  obtain ⟨hreserved, hill, hcause, hdup⟩ := h
  rw [StatusInv, runPass_ill, runPass_illCause, runPass_cfg]
  refine ⟨?_, hill, hcause, (runPass_status_getLsbD p s 4 (by decide) (by decide)).trans hdup⟩
  apply and_eq_zero_of_bits
  intro j hj hmask
  obtain ⟨-, h1, h2, -⟩ := status_reserved_bits hj hmask
  rw [runPass_status_getLsbD p s j h1 h2]
  exact getLsbD_eq_false_of_and_eq_zero hreserved hmask

/-- A pass stores folded symbols in live cells (43_display_buffer.md R152, R154). -/
theorem runPass_bufInv (p : PassIn) {s : State} (h : BufInv s) : BufInv (runPass p s) := by
  obtain ⟨hbeyond, hfolded⟩ := h
  refine ⟨fun k hk => ?_, fun k => ?_⟩
  · rw [State.nEff, runPass_cfg] at hk
    exact (runPass_buf_beyond p s k hk).trans (hbeyond k hk)
  · rw [runPass_buf]
    rcases modeStage_buf p s with hsame | ⟨t, hset⟩
    · rw [hsame]
      exact hfolded k
    · rw [hset]
      exact contentCells_folded _ _ t s.buf k.val k.isLt (hfolded k)

/-- Under a valid pin map a packed frame selects at most one digit (42_frame_packer.md R137, 10_state.md R44). -/
theorem pack_atMostOneDigit {e : EffCfg} (hcfg : CfgInv e) (hvalid : PinMapValid e) (d : BitVec 5) (m : Byte) :
    AtMostOneDigit e (pack e d m) := by
  intro j k hj hk hsetj hsetk
  have hjd := (pack_digitLine hcfg hvalid d m hj).mp hsetj
  have hkd := (pack_digitLine hcfg hvalid d m hk).mp hsetk
  exact Fin.ext (hjd.trans hkd.symm)

/-- A pass keeps the multiplexer's registers and the TX port consistent, advancing or not (44_multiplexer.md R170,
R172). -/
theorem runPass_muxInv (p : PassIn) {s : State} (hcfg : CfgInv s.cfg) (h : MuxInv s) : MuxInv (runPass p s) := by
  obtain ⟨hidx, hcount, hframe, hevents⟩ := h
  cases hgate : muxDue p.now s with
  | false =>
    rw [runPass_mux_not_due p s hgate]
    simp only [MuxInv, State.nEff, regStage_muxIdx, modeStage_muxIdx, regStage_cfg, modeStage_cfg, regStage_txCount,
      modeStage_txCount, regStage_tx, modeStage_tx, regStage_frame, modeStage_frame]
    exact ⟨hidx, hcount, hframe, hevents⟩
  | true =>
    have htx := runPass_tx_of_mux_due p s hgate
    rw [MuxInv, State.nEff, runPass_cfg, htx]
    refine ⟨?idx, ?count, ?last, fun ev hev => ?events⟩
    case idx =>
      rw [runPass_mux_due p s hgate]
      simp only [nextMuxIdx_toNat s hcfg.1.1 hcfg.1.2.1]
      exact Nat.mod_lt _ hcfg.1.1
    case count =>
      rw [runPass_txCount_of_mux_due p s hgate, hcount, List.length_append, List.length_singleton, BitVec.ofNat_add]
    case last => simp [txEvent]
    case events =>
      rcases List.mem_append.mp hev with hold | hnew
      · exact hevents ev hold
      · obtain rfl := List.mem_singleton.mp hnew
        refine ⟨rfl, fun hvalid => ?_⟩
        have hone := pack_atMostOneDigit hcfg ((cfgDuplicate_eq_false_iff _).mp hvalid) (s.muxIdx.setWidth 5)
        rw [runPass_frame_of_mux_due p s hgate]
        exact hone _

/-- The control law keeps the duty in its bounds (46_regulator.md R232, R233). -/
theorem nextDuty_bounds {e : EffCfg} (hbounds : e.dutyMin.toNat ≤ e.dutyMax.toNat) (v : BitVec 16) {d : BitVec 16}
    (hd : e.dutyMin.toNat ≤ d.toNat ∧ d.toNat ≤ e.dutyMax.toNat) :
    e.dutyMin.toNat ≤ (nextDuty e v d).toNat ∧ (nextDuty e v d).toNat ≤ e.dutyMax.toNat := by
  rcases Nat.lt_trichotomy (v.toNat * e.vNum.toNat) (e.vTarget.toNat * e.vDen.toNat) with hlt | heq | hgt
  · have hnew := nextDuty_below e v d hlt
    omega
  · rw [nextDuty_equal e v d heq]
    exact hd
  · have hnew := nextDuty_above e v d hgt
    omega

theorem runPass_dutyInv (p : PassIn) {s : State} (hcfg : CfgInv s.cfg) (h : DutyInv s) : DutyInv (runPass p s) := by
  obtain ⟨-, -, -, -, -, -, hlo, hhi⟩ := hcfg
  rw [DutyInv, runPass_cfg]
  cases hgate : regDue p.now s with
  | false =>
    obtain ⟨-, hsame, -⟩ := runPass_reg_not_due p s hgate
    rwa [hsame]
  | true =>
    cases hconn : p.vConn with
    | false =>
      obtain ⟨-, -, hsame⟩ := runPass_reg_disconnected p s hgate hconn
      rwa [hsame]
    | true =>
      obtain ⟨-, -, hnew⟩ := runPass_reg_connected p s hgate hconn
      rw [hnew]
      exact nextDuty_bounds (le_trans hlo hhi) p.vRaw h

/-- `enter_flash` selects a message that exists, or number 0 (45_mode_machine.md R197). -/
theorem enterFlash_messageInv (p : PassIn) (s : State) : MessageInv (enterFlash p s) := by
  obtain ⟨hsel, -⟩ := enterFlash_msgSel_buf p s
  rw [MessageInv, enterFlash_cfg, hsel]
  by_cases hcount : s.cfg.msgCount = 0#8
  · rw [if_pos hcount] at hsel
    exact .inr (BitVec.eq_of_toNat_eq hsel)
  · rw [if_neg hcount]
    have hpos : s.cfg.msgCount.toNat ≠ 0 := fun h => hcount (BitVec.eq_of_toNat_eq h)
    exact .inl (Nat.mod_lt _ (Nat.pos_of_ne_zero hpos))

/-- Only the entry to FLASH moves the selected message (45_mode_machine.md R192). -/
theorem modeMove_messageInv {p : PassIn} {s m : State} (hmove : ModeMove p s m) (h : MessageInv s) : MessageInv m := by
  cases hmove with
  | entersFlash => exact enterFlash_messageInv p _
  | refreshes => rwa [MessageInv, writeBase_msgSel, writeBase_cfg]
  | returns => rwa [MessageInv, returnToBase_msgSel, returnToBase_cfg]
  | startsCycle | waits | leavesFlash | redraws | stays => exact h

theorem runPass_messageInv (p : PassIn) {s : State} (h : MessageInv s) : MessageInv (runPass p s) := by
  have hmode := modeMove_messageInv (modeStage_move p s) h
  rw [MessageInv, modeStage_cfg] at hmode
  rwa [MessageInv, runPass_msgSel, runPass_cfg]

/-- A pass keeps the invariant (10_state.md R44). -/
theorem runPass_coreInv (p : PassIn) {s : State} (h : CoreInv s) : CoreInv (runPass p s) := by
  obtain ⟨hcfg, hrom, hstatus, htext, hbuf, hmux, hduty, hmessage⟩ := h
  refine ⟨?_, ?_, runPass_statusInv p hstatus, ?_, runPass_bufInv p hbuf, runPass_muxInv p hcfg hmux,
    runPass_dutyInv p hcfg hduty, runPass_messageInv p hmessage⟩
  · rwa [runPass_cfg]
  · rwa [RomInv, runPass_rom, runPass_cfg]
  · rwa [TextInv, State.nEff, runPass_cfg, runPass_stage, runPass_stageLen, runPass_custom]

/-- Settles O25: an idle port keeps the state, RST gives a reset state (`resetMeetsInvariant`), and host effects and
passes keep each clause. -/
theorem everyStepKeepsInvariant : Obligations.EveryStepKeepsInvariant := by
  intro s t h hstep
  rcases step_cases hstep with ⟨-, rfl⟩ | ⟨a, w, rest, -, heffect⟩ | ⟨w, rest, -, rfl⟩ | ⟨r, rest, -, hwf, rfl⟩
  · exact h
  · exact hostEffect_coreInv heffect h
  · obtain ⟨x, y, hdrop⟩ := dropSample_form { s with port := rest }
    rw [hdrop]
    exact runPass_coreInv _ h
  · exact resetMeetsInvariant r hwf

end Sys2Proof.Laws

/-! PROOFS. The bounded liveness of a flash cycle (45_mode_machine.md R206): each phase ends at the first scripted pass
that comes no earlier than its end, and that pass makes the move out of the phase. -/

namespace Sys2Proof.Laws

open Machine

/-! ### Scripts -/

theorem runScript_append (as bs : List ScriptedPass) (s : State) :
    runScript (as ++ bs) s = runScript bs (runScript as s) := by
  induction as generalizing s with
  | nil => rfl
  | cons a as ih => exact ih _

/-- One scripted pass: the host's flags, then the pass. -/
def runScripted (q : ScriptedPass) (s : State) : State := runPass q.input { s with flags := q.flags }

theorem runScript_concat (pre : List ScriptedPass) (q : ScriptedPass) (s : State) :
    runScript (pre ++ [q]) s = runScripted q (runScript pre s) := runScript_append pre [q] s

theorem runScript_cfg (script : List ScriptedPass) (s : State) : (runScript script s).cfg = s.cfg := by
  induction script generalizing s with
  | nil => rfl
  | cons q rest ih => exact (ih _).trans (runPass_cfg _ _)

/-! ### One phase -/

/-- A time `d < 2^31` ticks after `t` is reached, one up to `2^31` ticks before it is not (00_scope.md R16). -/
theorem phaseEnded_iff_of_offsets {s : State} {t0 : Word} {e o : Nat} (hend : s.phaseEnd = t0 + BitVec.ofNat 32 e)
    (hafter : o < e + 2 ^ 31) (hbefore : e ≤ o + 2 ^ 31) :
    PhaseEnded (t0 + BitVec.ofNat 32 o) s ↔ e ≤ o := by
  rw [PhaseEnded, ← reached_iff, hend]
  obtain ⟨hlater, -, hearlier⟩ := timePredicatesMeanDistance (t0 + BitVec.ofNat 32 o) (t0 + BitVec.ofNat 32 e)
  by_cases h : e ≤ o
  · refine iff_of_true (hlater (o - e) (by omega) ?_).2 h
    rw [add_assoc, ← BitVec.ofNat_add, Nat.add_sub_cancel' h]
  · refine iff_of_false (Bool.not_eq_true _ ▸ hearlier (e - o) (by omega) (by omega) ?_) h
    rw [eq_sub_iff_add_eq, add_assoc, ← BitVec.ofNat_add, Nat.add_sub_cancel' (by omega)]

/-- Before its end a phase keeps its mode and its end (45_mode_machine.md R198). -/
theorem runPass_of_phase_lasting {p : PassIn} {s : State} (hmode : s.mode ≠ .base) (hlasts : ¬ PhaseEnded p.now s) :
    (runPass p s).mode = s.mode ∧ (runPass p s).phaseEnd = s.phaseEnd := by
  rw [runPass_mode, runPass_phaseEnd]
  have hmove := modeStage_move p s
  generalize modeStage p s = m at hmove ⊢
  cases hmove with
  | startsCycle h => exact absurd h.1 hmode
  | refreshes h => exact absurd h hmode
  | waits h => exact absurd h hmode
  | returns h => exact absurd h.1 hlasts
  | entersFlash h => exact absurd h.2.1 hlasts
  | leavesFlash _ h => exact absurd h hlasts
  | redraws | stays => exact ⟨rfl, rfl⟩

/-- The script up to the pass `q` at which a phase ends that is due `e` ticks after `t0`; `post` comes after it. -/
structure EndsPhase (s : State) (t0 : Word) (P e : Nat) (script pre : List ScriptedPass) (q : ScriptedPass)
    (post : List ScriptedPass) : Prop where
  split : script = pre ++ q :: post
  notEarly : e ≤ q.offset
  notLate : q.offset ≤ e + P
  now : q.input.now = t0 + BitVec.ofNat 32 q.offset
  cadence : CadenceFrom t0 P q.offset post
  later : ∀ x ∈ script, q.offset < x.offset → x ∈ post
  mode : (runScript pre s).mode = s.mode
  ended : PhaseEnded q.input.now (runScript pre s)

/-- If some pass comes at the end of the phase or later, the first such pass comes within one spacing and ends the
phase (45_mode_machine.md R206). -/
theorem exists_endsPhase {s : State} {t0 : Word} {P e o : Nat} {script : List ScriptedPass} (hmode : s.mode ≠ .base)
    (hend : s.phaseEnd = t0 + BitVec.ofNat 32 e) (ho : o ≤ e) (hshort : e - o + P < 2 ^ 31)
    (hcadence : CadenceFrom t0 P o script) (hpass : ∃ x ∈ script, e ≤ x.offset) :
    ∃ pre q post, EndsPhase s t0 P e script pre q post := by
  induction script generalizing s o with
  | nil =>
    obtain ⟨x, hx, -⟩ := hpass
    cases hx
  | cons q rest ih =>
    obtain ⟨hfrom, hspacing, hnow, hrest⟩ := hcadence
    have hgate : PhaseEnded q.input.now s ↔ e ≤ q.offset :=
      hnow ▸ phaseEnded_iff_of_offsets hend (by omega) (by omega)
    by_cases hreached : e ≤ q.offset
    · refine ⟨[], q, rest, rfl, hreached, by omega, hnow, hrest, fun x hx hlater => ?_, rfl, hgate.mpr hreached⟩
      rcases List.mem_cons.mp hx with rfl | hx
      · exact absurd hlater (lt_irrefl _)
      · exact hx
    · have hlasts : ¬ PhaseEnded q.input.now s := mt hgate.mp hreached
      obtain ⟨hsame, hkept⟩ := runPass_of_phase_lasting (s := { s with flags := q.flags }) hmode hlasts
      have hpass' : ∃ x ∈ rest, e ≤ x.offset := by
        obtain ⟨x, hx, hxe⟩ := hpass
        rcases List.mem_cons.mp hx with rfl | hx
        · exact absurd hxe hreached
        · exact ⟨x, hx, hxe⟩
      obtain ⟨pre, q', post, h⟩ := ih (s := runScripted q s) (o := q.offset) (fun hb => hmode (hsame.symm.trans hb))
        (hkept.trans hend) (by omega) (by omega) hrest hpass'
      refine ⟨q :: pre, q', post, congrArg (q :: ·) h.split, h.notEarly, h.notLate, h.now, h.cadence,
        fun x hx hlater => ?_, h.mode.trans hsame, h.ended⟩
      rcases List.mem_cons.mp hx with rfl | hx
      · exact absurd hlater (by have := h.notEarly; omega)
      · exact h.later x hx hlater

/-! ### The move at the end of each phase -/

/-- The glitch ends in FLASH, or in BASE if END_AT_PHASE cuts it short (45_mode_machine.md R198, R200). -/
theorem runPass_of_glitchIn_ended {p : PassIn} {s : State} (hmode : s.mode = .glitchIn)
    (hended : PhaseEnded p.now s) :
    ((runPass p s).mode = .base ∧ s.cfg.disablePolicy = .endAtPhase) ∨
    ((runPass p s).mode = .flash ∧ (runPass p s).phaseEnd = p.now + s.cfg.flashDur) := by
  rw [runPass_mode, runPass_phaseEnd]
  by_cases hcut : CutShort s
  · rw [modeStage_eq_of_move (.returns ⟨hended, .inr ⟨.inl hmode, hcut⟩⟩)]
    exact .inl ⟨returnToBase_mode s p, hcut.1⟩
  · rw [modeStage_eq_of_move (.entersFlash ⟨hmode, hended, hcut⟩)]
    exact .inr ⟨enterFlash_mode _ p, enterFlash_phaseEnd _ p⟩

/-- The flash ends in GLITCH_OUT, or in BASE if END_AT_PHASE cuts it short (45_mode_machine.md R198, R200). -/
theorem runPass_of_flash_ended {p : PassIn} {s : State} (hmode : s.mode = .flash) (hended : PhaseEnded p.now s) :
    ((runPass p s).mode = .base ∧ s.cfg.disablePolicy = .endAtPhase) ∨
    ((runPass p s).mode = .glitchOut ∧ (runPass p s).phaseEnd = p.now + s.cfg.glitchOutDur) := by
  rw [runPass_mode, runPass_phaseEnd]
  by_cases hcut : CutShort s
  · rw [modeStage_eq_of_move (.returns ⟨hended, .inr ⟨.inr hmode, hcut⟩⟩)]
    exact .inl ⟨returnToBase_mode s p, hcut.1⟩
  · rw [modeStage_eq_of_move (.leavesFlash hmode hended hcut)]
    exact .inr ⟨rfl, rfl⟩

/-- The second glitch ends in BASE (45_mode_machine.md R198). -/
theorem runPass_of_glitchOut_ended {p : PassIn} {s : State} (hmode : s.mode = .glitchOut)
    (hended : PhaseEnded p.now s) : (runPass p s).mode = .base := by
  rw [runPass_mode, modeStage_eq_of_move (.returns ⟨hended, .inl hmode⟩), returnToBase_mode]

/-! ### The cycle, pass by pass -/

/-- The state after the first `k` passes of a script. -/
def stateAfter (script : List ScriptedPass) (s : State) (k : Nat) : State := runScript (script.take k) s

/-- The offset of pass `k` of a script. -/
def offsetAt (script : List ScriptedPass) (k : Nat) : Nat := (script.map ScriptedPass.offset).getD k 0

theorem stateAfter_cfg (script : List ScriptedPass) (s : State) (k : Nat) : (stateAfter script s k).cfg = s.cfg :=
  runScript_cfg _ s

/-- Where a script is cut before pass `q`: the number of that pass, its offset, and what comes before and after it. -/
theorem script_at {script before post : List ScriptedPass} {q : ScriptedPass} (h : script = before ++ q :: post) :
    before.length < script.length ∧ offsetAt script before.length = q.offset ∧
      script.take (before.length + 1) = before ++ [q] ∧ script.drop (before.length + 1) = post := by
  subst h
  simp [offsetAt, List.take_append, List.drop_append]

/-- The phase in force after `k` passes, due to end `e` ticks after `t0`, is ended by pass `k'`, at most `P` ticks late:
the pass `p` runs from a state `u` that is still in the phase. -/
structure PhaseEndsAt (script : List ScriptedPass) (s : State) (t0 : Word) (P e k k' : Nat) : Prop where
  after : k ≤ k'
  inScript : k' < script.length
  notEarly : e ≤ offsetAt script k'
  notLate : offsetAt script k' ≤ e + P
  cadence : CadenceFrom t0 P (offsetAt script k') (script.drop (k' + 1))
  later : ∀ x ∈ script.drop k, offsetAt script k' < x.offset → x ∈ script.drop (k' + 1)
  move : ∃ p u, stateAfter script s (k' + 1) = runPass p u ∧ u.mode = (stateAfter script s k).mode ∧
    u.cfg = s.cfg ∧ PhaseEnded p.now u ∧ p.now = t0 + BitVec.ofNat 32 (offsetAt script k')

/-- `exists_endsPhase` on the passes after the first `k` (45_mode_machine.md R206). -/
theorem exists_phaseEndsAt {script : List ScriptedPass} {s : State} {t0 : Word} {P e o k : Nat}
    (hmode : (stateAfter script s k).mode ≠ .base)
    (hend : (stateAfter script s k).phaseEnd = t0 + BitVec.ofNat 32 e) (ho : o ≤ e) (hshort : e - o + P < 2 ^ 31)
    (hcadence : CadenceFrom t0 P o (script.drop k)) (hpass : ∃ x ∈ script.drop k, e ≤ x.offset) :
    ∃ k', PhaseEndsAt script s t0 P e k k' := by
  obtain ⟨pre, q, post, h⟩ := exists_endsPhase hmode hend ho hshort hcadence hpass
  have hscript : script = (script.take k ++ pre) ++ q :: post := by
    rw [List.append_assoc, ← h.split, List.take_append_drop]
  have hk : k ≤ (script.take k ++ pre).length := by
    have hne : ¬ script.length ≤ k := by
      rw [← List.drop_eq_nil_iff, h.split]
      simp
    rw [List.length_append, List.length_take]
    omega
  obtain ⟨hin, hoffset, htake, hdrop⟩ := script_at hscript
  refine ⟨_, hk, hin, hoffset.symm ▸ h.notEarly, hoffset.symm ▸ h.notLate, ?cadence, ?later, q.input,
    { runScript pre (stateAfter script s k) with flags := q.flags }, ?run, h.mode,
    (runScript_cfg _ _).trans (stateAfter_cfg _ _ _), h.ended, hoffset.symm ▸ h.now⟩
  case cadence =>
    rw [hoffset, hdrop]
    exact h.cadence
  case later =>
    rw [hoffset, hdrop]
    exact h.later
  case run => rw [stateAfter, htake, runScript_concat, runScript_append, runScripted, stateAfter]

/-- A phase of `d` ticks entered by pass `k` is in force after it. -/
def InPhase (script : List ScriptedPass) (s : State) (t0 : Word) (k : Nat) (m : Mode) (d : Word) : Prop :=
  (stateAfter script s (k + 1)).mode = m ∧
  (stateAfter script s (k + 1)).phaseEnd = t0 + BitVec.ofNat 32 (offsetAt script k + d.toNat)

/-- The pass at `offset` ticks sets the end of the phase it enters. -/
theorem phaseEnd_offset (t0 d : Word) (o : Nat) : t0 + BitVec.ofNat 32 o + d = t0 + BitVec.ofNat 32 (o + d.toNat) := by
  rw [BitVec.ofNat_add, BitVec.ofNat_toNat, BitVec.setWidth_eq, add_assoc]

section
variable {script : List ScriptedPass} {s : State} {t0 : Word} {P e k k' : Nat}

/-- A phase entered by pass `k` ends if some pass comes later than its end (45_mode_machine.md R206). -/
theorem exists_phaseEndsAt_of_inPhase {m : Mode} {d : Word} (h : InPhase script s t0 k m d) (hm : m ≠ .base)
    (hshort : d.toNat + P < 2 ^ 31) (hcadence : CadenceFrom t0 P (offsetAt script k) (script.drop (k + 1)))
    (hpass : ∃ x ∈ script.drop (k + 1), offsetAt script k + d.toNat ≤ x.offset) :
    ∃ k', PhaseEndsAt script s t0 P (offsetAt script k + d.toNat) (k + 1) k' :=
  exists_phaseEndsAt (h.1.symm ▸ hm) h.2 (Nat.le_add_right _ _) (by omega) hcadence hpass

theorem inPhase_flash_of_glitchIn (h : PhaseEndsAt script s t0 P e k k')
    (hmode : (stateAfter script s k).mode = .glitchIn) :
    ((stateAfter script s (k' + 1)).mode = .base ∧ s.cfg.disablePolicy = .endAtPhase) ∨
    InPhase script s t0 k' .flash s.cfg.flashDur := by
  obtain ⟨p, u, hrun, hu, hcfg, hended, hnow⟩ := h.move
  rw [InPhase, hrun, ← phaseEnd_offset, ← hnow, ← hcfg]
  exact runPass_of_glitchIn_ended (hu.trans hmode) hended

theorem inPhase_glitchOut_of_flash (h : PhaseEndsAt script s t0 P e k k')
    (hmode : (stateAfter script s k).mode = .flash) :
    ((stateAfter script s (k' + 1)).mode = .base ∧ s.cfg.disablePolicy = .endAtPhase) ∨
    InPhase script s t0 k' .glitchOut s.cfg.glitchOutDur := by
  obtain ⟨p, u, hrun, hu, hcfg, hended, hnow⟩ := h.move
  rw [InPhase, hrun, ← phaseEnd_offset, ← hnow, ← hcfg]
  exact runPass_of_flash_ended (hu.trans hmode) hended

theorem base_of_glitchOut (h : PhaseEndsAt script s t0 P e k k')
    (hmode : (stateAfter script s k).mode = .glitchOut) : (stateAfter script s (k' + 1)).mode = .base := by
  obtain ⟨p, u, hrun, hu, -, hended, -⟩ := h.move
  rw [hrun]
  exact runPass_of_glitchOut_ended (hu.trans hmode) hended

end

/-- Settles O43: three phases one after the other, ended by the passes `k1`, `k2` and `k3`; a cut ends the cycle at the
first or the second of them. -/
theorem flashCycleReachesBase : Obligations.FlashCycleReachesBase := by
  intro s t0 P script dIn dFlash dOut modeAfter offsetOf hmode hphase hin hflash hout hcadence ⟨x, hx, hlate⟩
  have hend : s.phaseEnd = t0 + BitVec.ofNat 32 dIn := by
    rw [hphase, BitVec.ofNat_toNat, BitVec.setWidth_eq]
  obtain ⟨k1, h1⟩ := exists_phaseEndsAt (k := 0) (o := 0) (fun hb => nomatch hb.symm.trans hmode) hend (Nat.zero_le _)
    (by omega) hcadence ⟨x, hx, by omega⟩
  have hlate1 := h1.notLate
  have hx1 := h1.later x hx (by omega)
  rcases inPhase_flash_of_glitchIn h1 hmode with ⟨hbase, hpolicy⟩ | hflashing
  · exact ⟨⟨k1, h1.inScript, hlate1.trans (by omega), hbase⟩, fun h => nomatch h.symm.trans hpolicy⟩
  obtain ⟨k2, h2⟩ := exists_phaseEndsAt_of_inPhase hflashing (by decide) hflash h1.cadence ⟨x, hx1, by omega⟩
  have hlate2 := h2.notLate
  have hx2 := h2.later x hx1 (by omega)
  rcases inPhase_glitchOut_of_flash h2 hflashing.1 with ⟨hbase, hpolicy⟩ | hglitching
  · exact ⟨⟨k2, h2.inScript, hlate2.trans (by omega), hbase⟩, fun h => nomatch h.symm.trans hpolicy⟩
  obtain ⟨k3, h3⟩ := exists_phaseEndsAt_of_inPhase hglitching (by decide) hout h2.cadence ⟨x, hx2, by omega⟩
  have hbase := base_of_glitchOut h3 hglitching.1
  have hlast : offsetOf k3 ≤ dIn + dFlash + dOut + 3 * P := h3.notLate.trans (by omega)
  exact ⟨⟨k3, h3.inScript, hlast, hbase⟩, fun _ => ⟨k1, k2, k3, h2.after, h3.after, h3.inScript, hflashing.1,
    h1.notEarly, hlate1, hglitching.1, hbase, hlast⟩⟩

end Sys2Proof.Laws
